-- ==== Sys2Proof/Word.lean ====
section
/-! DEFINITION. The two word sizes of the hardware (spec 00_scope.md R6, R7). -/

namespace Sys2Proof

/-- A byte: the width of the data registers and of the bus. Bit 0 is the least significant (R7). -/
abbrev Byte := BitVec 8

/-- A 16-bit word: SP, PC, a register pair, a bus address. Addition on it is modulo 2^16 (R7). -/
abbrev Word := BitVec 16

end Sys2Proof
end

