-- ==== Sys2Proof/WellFormed.lean ====
section
/-! DEFINITION. Which instruction terms are complete instructions. -/

namespace Sys2Proof

/-- Every operand is in range by its type (a byte or a word), so one check is left: `prefix_CB x` is the reading of the
first byte 0xCB alone (30_encoding.md R113), and the complete instruction of the bytes 0xCB x is the extended entry x
(44_system.md R246; R116: the prefix takes no immediate and is no instruction of its own). It has a meaning (log 13),
and it is no well-formed result of a complete decode. -/
def wellFormed (i : Instr) : Bool :=
  match i with
  | .prefix_CB _ => false
  | _ => true

end Sys2Proof
end

