-- ==== Sys2Proof/Decode.lean ====
section
/-! DEFINITION. Decoding and encoding (30_encoding.md). Decoding is total on the bytes of an instruction: an undefined
primary value is a constructor of its own (R114), and the only rejection is a list of bytes that ends too early. The
decoder follows the opcode map R119 and the operand fields R102-R108; the encoder writes each instruction's own bytes. -/

namespace Sys2Proof

/-- The word of a high and a low byte, `(hi << 8) | lo` (00_scope.md R7). -/
def wordOf (hi lo : Byte) : Word := hi ++ lo

/-- Bits 7-0 of a word. -/
def lowByte (v : Word) : Byte := v.setWidth 8

/-- Bits 15-8 of a word. -/
def highByte (v : Word) : Byte := v.extractLsb' 8 8

/-! ## Operand fields -/

/-- The field `r` (R102). -/
def operand8OfField (r : Nat) : Operand8 :=
  match r with
  | 0 => .reg .b
  | 1 => .reg .c
  | 2 => .reg .d
  | 3 => .reg .e
  | 4 => .reg .h
  | 5 => .reg .l
  | 6 => .atHL
  | _ => .reg .a

/-- The field `o` (R106). -/
def aluOfField (o : Nat) : AluOp :=
  match o with
  | 0 => .add
  | 1 => .adc
  | 2 => .sub
  | 3 => .sbc
  | 4 => .and
  | 5 => .xor
  | 6 => .or
  | _ => .cp

/-- The field `bbb` of the extended group 00 (R108). -/
def rotOfField (o : Nat) : RotOp :=
  match o with
  | 0 => .rlc
  | 1 => .rrc
  | 2 => .rl
  | 3 => .rr
  | 4 => .sla
  | 5 => .sra
  | 6 => .swap
  | _ => .srl

/-! ## Families: the instruction that operand fields select -/

/-- `01 ddd sss`: LD d,s; the slot LD (HL),(HL) is HALT (R119, 44_system.md R241). -/
def Instr.ofLd (d s : Operand8) : Instr :=
  match d, s with
  | .reg .b, .reg .b => .ld_B_B | .reg .b, .reg .c => .ld_B_C | .reg .b, .reg .d => .ld_B_D
  | .reg .b, .reg .e => .ld_B_E | .reg .b, .reg .h => .ld_B_H | .reg .b, .reg .l => .ld_B_L
  | .reg .b, .atHL => .ld_B_atHL | .reg .b, .reg .a => .ld_B_A | .reg .c, .reg .b => .ld_C_B
  | .reg .c, .reg .c => .ld_C_C | .reg .c, .reg .d => .ld_C_D | .reg .c, .reg .e => .ld_C_E
  | .reg .c, .reg .h => .ld_C_H | .reg .c, .reg .l => .ld_C_L | .reg .c, .atHL => .ld_C_atHL
  | .reg .c, .reg .a => .ld_C_A | .reg .d, .reg .b => .ld_D_B | .reg .d, .reg .c => .ld_D_C
  | .reg .d, .reg .d => .ld_D_D | .reg .d, .reg .e => .ld_D_E | .reg .d, .reg .h => .ld_D_H
  | .reg .d, .reg .l => .ld_D_L | .reg .d, .atHL => .ld_D_atHL | .reg .d, .reg .a => .ld_D_A
  | .reg .e, .reg .b => .ld_E_B | .reg .e, .reg .c => .ld_E_C | .reg .e, .reg .d => .ld_E_D
  | .reg .e, .reg .e => .ld_E_E | .reg .e, .reg .h => .ld_E_H | .reg .e, .reg .l => .ld_E_L
  | .reg .e, .atHL => .ld_E_atHL | .reg .e, .reg .a => .ld_E_A | .reg .h, .reg .b => .ld_H_B
  | .reg .h, .reg .c => .ld_H_C | .reg .h, .reg .d => .ld_H_D | .reg .h, .reg .e => .ld_H_E
  | .reg .h, .reg .h => .ld_H_H | .reg .h, .reg .l => .ld_H_L | .reg .h, .atHL => .ld_H_atHL
  | .reg .h, .reg .a => .ld_H_A | .reg .l, .reg .b => .ld_L_B | .reg .l, .reg .c => .ld_L_C
  | .reg .l, .reg .d => .ld_L_D | .reg .l, .reg .e => .ld_L_E | .reg .l, .reg .h => .ld_L_H
  | .reg .l, .reg .l => .ld_L_L | .reg .l, .atHL => .ld_L_atHL | .reg .l, .reg .a => .ld_L_A
  | .atHL, .reg .b => .ld_atHL_B | .atHL, .reg .c => .ld_atHL_C | .atHL, .reg .d => .ld_atHL_D
  | .atHL, .reg .e => .ld_atHL_E | .atHL, .reg .h => .ld_atHL_H | .atHL, .reg .l => .ld_atHL_L
  | .atHL, .atHL => .halt | .atHL, .reg .a => .ld_atHL_A | .reg .a, .reg .b => .ld_A_B
  | .reg .a, .reg .c => .ld_A_C | .reg .a, .reg .d => .ld_A_D | .reg .a, .reg .e => .ld_A_E
  | .reg .a, .reg .h => .ld_A_H | .reg .a, .reg .l => .ld_A_L | .reg .a, .atHL => .ld_A_atHL
  | .reg .a, .reg .a => .ld_A_A

/-- `10 ooo sss`: the 8-bit operation `o` on A and s (R106, R119). -/
def Instr.ofAlu (o : AluOp) (s : Operand8) : Instr :=
  match o, s with
  | .add, .reg .b => .add_A_B | .add, .reg .c => .add_A_C | .add, .reg .d => .add_A_D | .add, .reg .e => .add_A_E
  | .add, .reg .h => .add_A_H | .add, .reg .l => .add_A_L | .add, .atHL => .add_A_atHL | .add, .reg .a => .add_A_A
  | .adc, .reg .b => .adc_A_B | .adc, .reg .c => .adc_A_C | .adc, .reg .d => .adc_A_D | .adc, .reg .e => .adc_A_E
  | .adc, .reg .h => .adc_A_H | .adc, .reg .l => .adc_A_L | .adc, .atHL => .adc_A_atHL | .adc, .reg .a => .adc_A_A
  | .sub, .reg .b => .sub_B | .sub, .reg .c => .sub_C | .sub, .reg .d => .sub_D | .sub, .reg .e => .sub_E
  | .sub, .reg .h => .sub_H | .sub, .reg .l => .sub_L | .sub, .atHL => .sub_atHL | .sub, .reg .a => .sub_A
  | .sbc, .reg .b => .sbc_A_B | .sbc, .reg .c => .sbc_A_C | .sbc, .reg .d => .sbc_A_D | .sbc, .reg .e => .sbc_A_E
  | .sbc, .reg .h => .sbc_A_H | .sbc, .reg .l => .sbc_A_L | .sbc, .atHL => .sbc_A_atHL | .sbc, .reg .a => .sbc_A_A
  | .and, .reg .b => .and_B | .and, .reg .c => .and_C | .and, .reg .d => .and_D | .and, .reg .e => .and_E
  | .and, .reg .h => .and_H | .and, .reg .l => .and_L | .and, .atHL => .and_atHL | .and, .reg .a => .and_A
  | .xor, .reg .b => .xor_B | .xor, .reg .c => .xor_C | .xor, .reg .d => .xor_D | .xor, .reg .e => .xor_E
  | .xor, .reg .h => .xor_H | .xor, .reg .l => .xor_L | .xor, .atHL => .xor_atHL | .xor, .reg .a => .xor_A
  | .or, .reg .b => .or_B | .or, .reg .c => .or_C | .or, .reg .d => .or_D | .or, .reg .e => .or_E
  | .or, .reg .h => .or_H | .or, .reg .l => .or_L | .or, .atHL => .or_atHL | .or, .reg .a => .or_A
  | .cp, .reg .b => .cp_B | .cp, .reg .c => .cp_C | .cp, .reg .d => .cp_D | .cp, .reg .e => .cp_E
  | .cp, .reg .h => .cp_H | .cp, .reg .l => .cp_L | .cp, .atHL => .cp_atHL | .cp, .reg .a => .cp_A

/-- `11 ooo 110`: the 8-bit operation `o` on A and the immediate (R106). -/
def Instr.ofAluImm (o : AluOp) (n : Byte) : Instr :=
  match o with
  | .add => .add_A_d8 n | .adc => .adc_A_d8 n | .sub => .sub_d8 n | .sbc => .sbc_A_d8 n | .and => .and_d8 n
  | .xor => .xor_d8 n | .or => .or_d8 n | .cp => .cp_d8 n

/-- `00 ddd 100`: INC d (41_alu8.md R186, R187). -/
def Instr.ofInc8 (d : Operand8) : Instr :=
  match d with
  | .reg .b => .inc_B | .reg .c => .inc_C | .reg .d => .inc_D | .reg .e => .inc_E | .reg .h => .inc_H
  | .reg .l => .inc_L | .atHL => .inc_atHL | .reg .a => .inc_A

/-- `00 ddd 101`: DEC d (41_alu8.md R188, R189). -/
def Instr.ofDec8 (d : Operand8) : Instr :=
  match d with
  | .reg .b => .dec_B | .reg .c => .dec_C | .reg .d => .dec_D | .reg .e => .dec_E | .reg .h => .dec_H
  | .reg .l => .dec_L | .atHL => .dec_atHL | .reg .a => .dec_A

/-- `00 ddd 110`: LD d,d8 (40_load.md R123, R126). -/
def Instr.ofLdImm (d : Operand8) (n : Byte) : Instr :=
  match d with
  | .reg .b => .ld_B_d8 n | .reg .c => .ld_C_d8 n | .reg .d => .ld_D_d8 n | .reg .e => .ld_E_d8 n
  | .reg .h => .ld_H_d8 n | .reg .l => .ld_L_d8 n | .atHL => .ld_atHL_d8 n | .reg .a => .ld_A_d8 n

/-- `00 pp0 001`: LD rr,d16 (40_load.md R141). -/
def Instr.ofLdPairImm (p : Pair) (v : Word) : Instr :=
  match p with
  | .bc => .ld_BC_d16 v | .de => .ld_DE_d16 v | .hl => .ld_HL_d16 v | .sp => .ld_SP_d16 v

/-- `00 pp0 011`: INC rr (42_alu16.md R210). -/
def Instr.ofIncPair (p : Pair) : Instr :=
  match p with
  | .bc => .inc_BC | .de => .inc_DE | .hl => .inc_HL | .sp => .inc_SP

/-- `00 pp1 011`: DEC rr (42_alu16.md R211). -/
def Instr.ofDecPair (p : Pair) : Instr :=
  match p with
  | .bc => .dec_BC | .de => .dec_DE | .hl => .dec_HL | .sp => .dec_SP

/-- `00 pp1 001`: ADD HL,rr (42_alu16.md R212). -/
def Instr.ofAddHL (p : Pair) : Instr :=
  match p with
  | .bc => .add_HL_BC | .de => .add_HL_DE | .hl => .add_HL_HL | .sp => .add_HL_SP

/-- `11 qq0 101`: PUSH rr (40_load.md R144, R145). -/
def Instr.ofPush (q : StackPair) : Instr :=
  match q with
  | .bc => .push_BC | .de => .push_DE | .hl => .push_HL | .af => .push_AF

/-- `11 qq0 001`: POP rr (40_load.md R146, R147). -/
def Instr.ofPop (q : StackPair) : Instr :=
  match q with
  | .bc => .pop_BC | .de => .pop_DE | .hl => .pop_HL | .af => .pop_AF

/-- `001 cc 000`: JR cc,e8 (43_control.md R225). -/
def Instr.ofJr (cc : Cond) (e : Byte) : Instr :=
  match cc with
  | .nz => .jr_NZ_e8 e | .z => .jr_Z_e8 e | .nc => .jr_NC_e8 e | .c => .jr_C_e8 e

/-- `110 cc 010`: JP cc,a16 (43_control.md R222). -/
def Instr.ofJp (cc : Cond) (a : Word) : Instr :=
  match cc with
  | .nz => .jp_NZ_a16 a | .z => .jp_Z_a16 a | .nc => .jp_NC_a16 a | .c => .jp_C_a16 a

/-- `110 cc 100`: CALL cc,a16 (43_control.md R227). -/
def Instr.ofCall (cc : Cond) (a : Word) : Instr :=
  match cc with
  | .nz => .call_NZ_a16 a | .z => .call_Z_a16 a | .nc => .call_NC_a16 a | .c => .call_C_a16 a

/-- `110 cc 000`: RET cc (43_control.md R229). -/
def Instr.ofRet (cc : Cond) : Instr :=
  match cc with
  | .nz => .ret_NZ | .z => .ret_Z | .nc => .ret_NC | .c => .ret_C

/-- `11 ttt 111`: RST t × 8 (43_control.md R231). -/
def Instr.ofRst (t : Fin 8) : Instr :=
  match t with
  | 0 => .rst_00 | 1 => .rst_08 | 2 => .rst_10 | 3 => .rst_18 | 4 => .rst_20 | 5 => .rst_28 | 6 => .rst_30
  | 7 => .rst_38

/-- CB `00 ooo rrr`: a rotate, shift or swap (R108). -/
def Instr.ofRot (o : RotOp) (r : Operand8) : Instr :=
  match o, r with
  | .rlc, .reg .b => .rlc_B | .rlc, .reg .c => .rlc_C | .rlc, .reg .d => .rlc_D | .rlc, .reg .e => .rlc_E
  | .rlc, .reg .h => .rlc_H | .rlc, .reg .l => .rlc_L | .rlc, .atHL => .rlc_atHL | .rlc, .reg .a => .rlc_A
  | .rrc, .reg .b => .rrc_B | .rrc, .reg .c => .rrc_C | .rrc, .reg .d => .rrc_D | .rrc, .reg .e => .rrc_E
  | .rrc, .reg .h => .rrc_H | .rrc, .reg .l => .rrc_L | .rrc, .atHL => .rrc_atHL | .rrc, .reg .a => .rrc_A
  | .rl, .reg .b => .rl_B | .rl, .reg .c => .rl_C | .rl, .reg .d => .rl_D | .rl, .reg .e => .rl_E
  | .rl, .reg .h => .rl_H | .rl, .reg .l => .rl_L | .rl, .atHL => .rl_atHL | .rl, .reg .a => .rl_A
  | .rr, .reg .b => .rr_B | .rr, .reg .c => .rr_C | .rr, .reg .d => .rr_D | .rr, .reg .e => .rr_E
  | .rr, .reg .h => .rr_H | .rr, .reg .l => .rr_L | .rr, .atHL => .rr_atHL | .rr, .reg .a => .rr_A
  | .sla, .reg .b => .sla_B | .sla, .reg .c => .sla_C | .sla, .reg .d => .sla_D | .sla, .reg .e => .sla_E
  | .sla, .reg .h => .sla_H | .sla, .reg .l => .sla_L | .sla, .atHL => .sla_atHL | .sla, .reg .a => .sla_A
  | .sra, .reg .b => .sra_B | .sra, .reg .c => .sra_C | .sra, .reg .d => .sra_D | .sra, .reg .e => .sra_E
  | .sra, .reg .h => .sra_H | .sra, .reg .l => .sra_L | .sra, .atHL => .sra_atHL | .sra, .reg .a => .sra_A
  | .swap, .reg .b => .swap_B | .swap, .reg .c => .swap_C | .swap, .reg .d => .swap_D | .swap, .reg .e => .swap_E
  | .swap, .reg .h => .swap_H | .swap, .reg .l => .swap_L | .swap, .atHL => .swap_atHL | .swap, .reg .a => .swap_A
  | .srl, .reg .b => .srl_B | .srl, .reg .c => .srl_C | .srl, .reg .d => .srl_D | .srl, .reg .e => .srl_E
  | .srl, .reg .h => .srl_H | .srl, .reg .l => .srl_L | .srl, .atHL => .srl_atHL | .srl, .reg .a => .srl_A

/-- CB `01 bbb rrr`: BIT b,r (R108). -/
def Instr.ofBit (b : Fin 8) (r : Operand8) : Instr :=
  match b, r with
  | 0, .reg .b => .bit_0_B | 0, .reg .c => .bit_0_C | 0, .reg .d => .bit_0_D | 0, .reg .e => .bit_0_E
  | 0, .reg .h => .bit_0_H | 0, .reg .l => .bit_0_L | 0, .atHL => .bit_0_atHL | 0, .reg .a => .bit_0_A
  | 1, .reg .b => .bit_1_B | 1, .reg .c => .bit_1_C | 1, .reg .d => .bit_1_D | 1, .reg .e => .bit_1_E
  | 1, .reg .h => .bit_1_H | 1, .reg .l => .bit_1_L | 1, .atHL => .bit_1_atHL | 1, .reg .a => .bit_1_A
  | 2, .reg .b => .bit_2_B | 2, .reg .c => .bit_2_C | 2, .reg .d => .bit_2_D | 2, .reg .e => .bit_2_E
  | 2, .reg .h => .bit_2_H | 2, .reg .l => .bit_2_L | 2, .atHL => .bit_2_atHL | 2, .reg .a => .bit_2_A
  | 3, .reg .b => .bit_3_B | 3, .reg .c => .bit_3_C | 3, .reg .d => .bit_3_D | 3, .reg .e => .bit_3_E
  | 3, .reg .h => .bit_3_H | 3, .reg .l => .bit_3_L | 3, .atHL => .bit_3_atHL | 3, .reg .a => .bit_3_A
  | 4, .reg .b => .bit_4_B | 4, .reg .c => .bit_4_C | 4, .reg .d => .bit_4_D | 4, .reg .e => .bit_4_E
  | 4, .reg .h => .bit_4_H | 4, .reg .l => .bit_4_L | 4, .atHL => .bit_4_atHL | 4, .reg .a => .bit_4_A
  | 5, .reg .b => .bit_5_B | 5, .reg .c => .bit_5_C | 5, .reg .d => .bit_5_D | 5, .reg .e => .bit_5_E
  | 5, .reg .h => .bit_5_H | 5, .reg .l => .bit_5_L | 5, .atHL => .bit_5_atHL | 5, .reg .a => .bit_5_A
  | 6, .reg .b => .bit_6_B | 6, .reg .c => .bit_6_C | 6, .reg .d => .bit_6_D | 6, .reg .e => .bit_6_E
  | 6, .reg .h => .bit_6_H | 6, .reg .l => .bit_6_L | 6, .atHL => .bit_6_atHL | 6, .reg .a => .bit_6_A
  | 7, .reg .b => .bit_7_B | 7, .reg .c => .bit_7_C | 7, .reg .d => .bit_7_D | 7, .reg .e => .bit_7_E
  | 7, .reg .h => .bit_7_H | 7, .reg .l => .bit_7_L | 7, .atHL => .bit_7_atHL | 7, .reg .a => .bit_7_A

/-- CB `10 bbb rrr`: RES b,r (R108). -/
def Instr.ofRes (b : Fin 8) (r : Operand8) : Instr :=
  match b, r with
  | 0, .reg .b => .res_0_B | 0, .reg .c => .res_0_C | 0, .reg .d => .res_0_D | 0, .reg .e => .res_0_E
  | 0, .reg .h => .res_0_H | 0, .reg .l => .res_0_L | 0, .atHL => .res_0_atHL | 0, .reg .a => .res_0_A
  | 1, .reg .b => .res_1_B | 1, .reg .c => .res_1_C | 1, .reg .d => .res_1_D | 1, .reg .e => .res_1_E
  | 1, .reg .h => .res_1_H | 1, .reg .l => .res_1_L | 1, .atHL => .res_1_atHL | 1, .reg .a => .res_1_A
  | 2, .reg .b => .res_2_B | 2, .reg .c => .res_2_C | 2, .reg .d => .res_2_D | 2, .reg .e => .res_2_E
  | 2, .reg .h => .res_2_H | 2, .reg .l => .res_2_L | 2, .atHL => .res_2_atHL | 2, .reg .a => .res_2_A
  | 3, .reg .b => .res_3_B | 3, .reg .c => .res_3_C | 3, .reg .d => .res_3_D | 3, .reg .e => .res_3_E
  | 3, .reg .h => .res_3_H | 3, .reg .l => .res_3_L | 3, .atHL => .res_3_atHL | 3, .reg .a => .res_3_A
  | 4, .reg .b => .res_4_B | 4, .reg .c => .res_4_C | 4, .reg .d => .res_4_D | 4, .reg .e => .res_4_E
  | 4, .reg .h => .res_4_H | 4, .reg .l => .res_4_L | 4, .atHL => .res_4_atHL | 4, .reg .a => .res_4_A
  | 5, .reg .b => .res_5_B | 5, .reg .c => .res_5_C | 5, .reg .d => .res_5_D | 5, .reg .e => .res_5_E
  | 5, .reg .h => .res_5_H | 5, .reg .l => .res_5_L | 5, .atHL => .res_5_atHL | 5, .reg .a => .res_5_A
  | 6, .reg .b => .res_6_B | 6, .reg .c => .res_6_C | 6, .reg .d => .res_6_D | 6, .reg .e => .res_6_E
  | 6, .reg .h => .res_6_H | 6, .reg .l => .res_6_L | 6, .atHL => .res_6_atHL | 6, .reg .a => .res_6_A
  | 7, .reg .b => .res_7_B | 7, .reg .c => .res_7_C | 7, .reg .d => .res_7_D | 7, .reg .e => .res_7_E
  | 7, .reg .h => .res_7_H | 7, .reg .l => .res_7_L | 7, .atHL => .res_7_atHL | 7, .reg .a => .res_7_A

/-- CB `11 bbb rrr`: SET b,r (R108). -/
def Instr.ofSet (b : Fin 8) (r : Operand8) : Instr :=
  match b, r with
  | 0, .reg .b => .set_0_B | 0, .reg .c => .set_0_C | 0, .reg .d => .set_0_D | 0, .reg .e => .set_0_E
  | 0, .reg .h => .set_0_H | 0, .reg .l => .set_0_L | 0, .atHL => .set_0_atHL | 0, .reg .a => .set_0_A
  | 1, .reg .b => .set_1_B | 1, .reg .c => .set_1_C | 1, .reg .d => .set_1_D | 1, .reg .e => .set_1_E
  | 1, .reg .h => .set_1_H | 1, .reg .l => .set_1_L | 1, .atHL => .set_1_atHL | 1, .reg .a => .set_1_A
  | 2, .reg .b => .set_2_B | 2, .reg .c => .set_2_C | 2, .reg .d => .set_2_D | 2, .reg .e => .set_2_E
  | 2, .reg .h => .set_2_H | 2, .reg .l => .set_2_L | 2, .atHL => .set_2_atHL | 2, .reg .a => .set_2_A
  | 3, .reg .b => .set_3_B | 3, .reg .c => .set_3_C | 3, .reg .d => .set_3_D | 3, .reg .e => .set_3_E
  | 3, .reg .h => .set_3_H | 3, .reg .l => .set_3_L | 3, .atHL => .set_3_atHL | 3, .reg .a => .set_3_A
  | 4, .reg .b => .set_4_B | 4, .reg .c => .set_4_C | 4, .reg .d => .set_4_D | 4, .reg .e => .set_4_E
  | 4, .reg .h => .set_4_H | 4, .reg .l => .set_4_L | 4, .atHL => .set_4_atHL | 4, .reg .a => .set_4_A
  | 5, .reg .b => .set_5_B | 5, .reg .c => .set_5_C | 5, .reg .d => .set_5_D | 5, .reg .e => .set_5_E
  | 5, .reg .h => .set_5_H | 5, .reg .l => .set_5_L | 5, .atHL => .set_5_atHL | 5, .reg .a => .set_5_A
  | 6, .reg .b => .set_6_B | 6, .reg .c => .set_6_C | 6, .reg .d => .set_6_D | 6, .reg .e => .set_6_E
  | 6, .reg .h => .set_6_H | 6, .reg .l => .set_6_L | 6, .atHL => .set_6_atHL | 6, .reg .a => .set_6_A
  | 7, .reg .b => .set_7_B | 7, .reg .c => .set_7_C | 7, .reg .d => .set_7_D | 7, .reg .e => .set_7_E
  | 7, .reg .h => .set_7_H | 7, .reg .l => .set_7_L | 7, .atHL => .set_7_atHL | 7, .reg .a => .set_7_A

/-- The extended entry `x` (R108): all 256 values are instructions (R115). -/
def decodeExtended (x : Byte) : Instr :=
  let r := operand8OfField (x.toNat % 8)
  let b : Fin 8 := Fin.ofNat 8 (x.toNat / 8)
  match x.toNat / 64 with
  | 0 => .ofRot (rotOfField b.val) r
  | 1 => .ofBit b r
  | 2 => .ofRes b r
  | _ => .ofSet b r

/-! ## The primary opcode map (R119)

A row of the map is a function of the low nibble `k`, the byte `n` after the opcode and the word `v` of the two bytes
after it (R109, R110). -/

/-- Row 0x. -/
def primaryRow0 (k : Nat) (n : Byte) (v : Word) : Instr :=
  match k with
  | 0 => .nop | 1 => .ld_BC_d16 v | 2 => .ld_atBC_A | 3 => .inc_BC | 4 => .inc_B | 5 => .dec_B | 6 => .ld_B_d8 n
  | 7 => .rlca | 8 => .ld_atA16_SP v | 9 => .add_HL_BC | 10 => .ld_A_atBC | 11 => .dec_BC | 12 => .inc_C
  | 13 => .dec_C | 14 => .ld_C_d8 n | _ => .rrca

/-- Row 1x. -/
def primaryRow1 (k : Nat) (n : Byte) (v : Word) : Instr :=
  match k with
  | 0 => .stop | 1 => .ld_DE_d16 v | 2 => .ld_atDE_A | 3 => .inc_DE | 4 => .inc_D | 5 => .dec_D | 6 => .ld_D_d8 n
  | 7 => .rla | 8 => .jr_e8 n | 9 => .add_HL_DE | 10 => .ld_A_atDE | 11 => .dec_DE | 12 => .inc_E | 13 => .dec_E
  | 14 => .ld_E_d8 n | _ => .rra

/-- Row 2x. -/
def primaryRow2 (k : Nat) (n : Byte) (v : Word) : Instr :=
  match k with
  | 0 => .jr_NZ_e8 n | 1 => .ld_HL_d16 v | 2 => .ld_atHLInc_A | 3 => .inc_HL | 4 => .inc_H | 5 => .dec_H
  | 6 => .ld_H_d8 n | 7 => .daa | 8 => .jr_Z_e8 n | 9 => .add_HL_HL | 10 => .ld_A_atHLInc | 11 => .dec_HL
  | 12 => .inc_L | 13 => .dec_L | 14 => .ld_L_d8 n | _ => .cpl

/-- Row 3x. -/
def primaryRow3 (k : Nat) (n : Byte) (v : Word) : Instr :=
  match k with
  | 0 => .jr_NC_e8 n | 1 => .ld_SP_d16 v | 2 => .ld_atHLDec_A | 3 => .inc_SP | 4 => .inc_atHL | 5 => .dec_atHL
  | 6 => .ld_atHL_d8 n | 7 => .scf | 8 => .jr_C_e8 n | 9 => .add_HL_SP | 10 => .ld_A_atHLDec | 11 => .dec_SP
  | 12 => .inc_A | 13 => .dec_A | 14 => .ld_A_d8 n | _ => .ccf

/-- Row Cx. -/
def primaryRowC (k : Nat) (n : Byte) (v : Word) : Instr :=
  match k with
  | 0 => .ret_NZ | 1 => .pop_BC | 2 => .jp_NZ_a16 v | 3 => .jp_a16 v | 4 => .call_NZ_a16 v | 5 => .push_BC
  | 6 => .add_A_d8 n | 7 => .rst_00 | 8 => .ret_Z | 9 => .ret | 10 => .jp_Z_a16 v | 11 => .prefix_CB n
  | 12 => .call_Z_a16 v | 13 => .call_a16 v | 14 => .adc_A_d8 n | _ => .rst_08

/-- Row Dx. -/
def primaryRowD (k : Nat) (n : Byte) (v : Word) : Instr :=
  match k with
  | 0 => .ret_NC | 1 => .pop_DE | 2 => .jp_NC_a16 v | 3 => .undefined_D3 | 4 => .call_NC_a16 v | 5 => .push_DE
  | 6 => .sub_d8 n | 7 => .rst_10 | 8 => .ret_C | 9 => .reti | 10 => .jp_C_a16 v | 11 => .undefined_DB
  | 12 => .call_C_a16 v | 13 => .undefined_DD | 14 => .sbc_A_d8 n | _ => .rst_18

/-- Row Ex. -/
def primaryRowE (k : Nat) (n : Byte) (v : Word) : Instr :=
  match k with
  | 0 => .ldh_atA8_A n | 1 => .pop_HL | 2 => .ld_atC_A | 3 => .undefined_E3 | 4 => .undefined_E4 | 5 => .push_HL
  | 6 => .and_d8 n | 7 => .rst_20 | 8 => .add_SP_e8 n | 9 => .jp_atHL | 10 => .ld_atA16_A v | 11 => .undefined_EB
  | 12 => .undefined_EC | 13 => .undefined_ED | 14 => .xor_d8 n | _ => .rst_28

/-- Row Fx. -/
def primaryRowF (k : Nat) (n : Byte) (v : Word) : Instr :=
  match k with
  | 0 => .ldh_A_atA8 n | 1 => .pop_AF | 2 => .ld_A_atC | 3 => .di | 4 => .undefined_F4 | 5 => .push_AF
  | 6 => .or_d8 n | 7 => .rst_30 | 8 => .ld_HL_SPe8 n | 9 => .ld_SP_HL | 10 => .ld_A_atA16 v | 11 => .ei
  | 12 => .undefined_FC | 13 => .undefined_FD | 14 => .cp_d8 n | _ => .rst_38

/-- The primary entry `op` with the byte `n` and the word `v` that follow it (R113, R119). The value 0xCB gives the
prefix row, whose operand is the extended byte. -/
def decodePrimary (op n : Byte) (v : Word) : Instr :=
  let k := op.toNat % 16
  match op.toNat / 16 with
  | 0x0 => primaryRow0 k n v
  | 0x1 => primaryRow1 k n v
  | 0x2 => primaryRow2 k n v
  | 0x3 => primaryRow3 k n v
  | 0xC => primaryRowC k n v
  | 0xD => primaryRowD k n v
  | 0xE => primaryRowE k n v
  | 0xF => primaryRowF k n v
  | y =>
    if y < 0x8 then .ofLd (operand8OfField (op.toNat / 8 % 8)) (operand8OfField (op.toNat % 8))
    else .ofAlu (aluOfField (op.toNat / 8 % 8)) (operand8OfField (op.toNat % 8))

/-! ## Whole instructions -/

/-- How many bytes after the opcode `op` the machine reads (R100, table field `length`). STOP's second byte is not read
(44_system.md R242; log 15). -/
def operandBytes (op : Byte) : Nat :=
  if op = 0xCB then 1
  else
    match decodePrimary op 0 0 with
    | .ld_B_d8 _ | .ld_C_d8 _ | .ld_D_d8 _ | .jr_e8 _ | .ld_E_d8 _ | .jr_NZ_e8 _ | .ld_H_d8 _ | .jr_Z_e8 _
    | .ld_L_d8 _ | .jr_NC_e8 _ | .ld_atHL_d8 _ | .jr_C_e8 _ | .ld_A_d8 _ | .add_A_d8 _ | .adc_A_d8 _
    | .sub_d8 _ | .sbc_A_d8 _ | .ldh_atA8_A _ | .and_d8 _ | .add_SP_e8 _ | .xor_d8 _ | .ldh_A_atA8 _ | .or_d8 _
    | .ld_HL_SPe8 _ | .cp_d8 _ => 1
    | .ld_BC_d16 _ | .ld_atA16_SP _ | .ld_DE_d16 _ | .ld_HL_d16 _ | .ld_SP_d16 _ | .jp_NZ_a16 _ | .jp_a16 _
    | .call_NZ_a16 _ | .jp_Z_a16 _ | .call_Z_a16 _ | .call_a16 _ | .jp_NC_a16 _ | .call_NC_a16 _ | .jp_C_a16 _
    | .call_C_a16 _ | .ld_atA16_A _ | .ld_A_atA16 _ => 2
    | _ => 0

/-- The instruction of the bytes `op b1 b2`, of which those beyond `operandBytes op` are not looked at: the primary entry,
or the extended entry after 0xCB (R113, 44_system.md R246). -/
def decodeBytes (op b1 b2 : Byte) : Instr :=
  if op = 0xCB then decodeExtended b1 else decodePrimary op b1 (wordOf b2 b1)

/-- Why a list of bytes is no instruction. -/
inductive DecodeError where
  /-- The list ends before the instruction does. -/
  | truncated
deriving DecidableEq, Repr

/-- The first instruction of a list of bytes, lowest address first, and the bytes after it. STOP is two bytes long and
the value of the second is not looked at (R101, R116; log 15). -/
def decode (bytes : List Byte) : Except DecodeError (Instr × List Byte) :=
  match bytes with
  | [] => .error .truncated
  | op :: rest =>
    if op = 0x10 then .ok (.stop, rest.drop 1)
    else
      match operandBytes op, rest with
      | 0, _ => .ok (decodeBytes op 0 0, rest)
      | 1, b1 :: more => .ok (decodeBytes op b1 0, more)
      | 2, b1 :: b2 :: more => .ok (decodeBytes op b1 b2, more)
      | _, _ => .error .truncated

/-- The bytes of an instruction, lowest address first (R101, R119 and the Encoding line of each instruction's rule). STOP's
second byte is written 0x00 (44_system.md R242). -/
def encode (i : Instr) : List Byte :=
  match i with
  | .nop => [0x00]
  | .ld_BC_d16 v => [0x01, lowByte v, highByte v]
  | .ld_atBC_A => [0x02]
  | .inc_BC => [0x03]
  | .inc_B => [0x04]
  | .dec_B => [0x05]
  | .ld_B_d8 n => [0x06, n]
  | .rlca => [0x07]
  | .ld_atA16_SP a => [0x08, lowByte a, highByte a]
  | .add_HL_BC => [0x09]
  | .ld_A_atBC => [0x0A]
  | .dec_BC => [0x0B]
  | .inc_C => [0x0C]
  | .dec_C => [0x0D]
  | .ld_C_d8 n => [0x0E, n]
  | .rrca => [0x0F]
  | .stop => [0x10, 0x00]
  | .ld_DE_d16 v => [0x11, lowByte v, highByte v]
  | .ld_atDE_A => [0x12]
  | .inc_DE => [0x13]
  | .inc_D => [0x14]
  | .dec_D => [0x15]
  | .ld_D_d8 n => [0x16, n]
  | .rla => [0x17]
  | .jr_e8 e => [0x18, e]
  | .add_HL_DE => [0x19]
  | .ld_A_atDE => [0x1A]
  | .dec_DE => [0x1B]
  | .inc_E => [0x1C]
  | .dec_E => [0x1D]
  | .ld_E_d8 n => [0x1E, n]
  | .rra => [0x1F]
  | .jr_NZ_e8 e => [0x20, e]
  | .ld_HL_d16 v => [0x21, lowByte v, highByte v]
  | .ld_atHLInc_A => [0x22]
  | .inc_HL => [0x23]
  | .inc_H => [0x24]
  | .dec_H => [0x25]
  | .ld_H_d8 n => [0x26, n]
  | .daa => [0x27]
  | .jr_Z_e8 e => [0x28, e]
  | .add_HL_HL => [0x29]
  | .ld_A_atHLInc => [0x2A]
  | .dec_HL => [0x2B]
  | .inc_L => [0x2C]
  | .dec_L => [0x2D]
  | .ld_L_d8 n => [0x2E, n]
  | .cpl => [0x2F]
  | .jr_NC_e8 e => [0x30, e]
  | .ld_SP_d16 v => [0x31, lowByte v, highByte v]
  | .ld_atHLDec_A => [0x32]
  | .inc_SP => [0x33]
  | .inc_atHL => [0x34]
  | .dec_atHL => [0x35]
  | .ld_atHL_d8 n => [0x36, n]
  | .scf => [0x37]
  | .jr_C_e8 e => [0x38, e]
  | .add_HL_SP => [0x39]
  | .ld_A_atHLDec => [0x3A]
  | .dec_SP => [0x3B]
  | .inc_A => [0x3C]
  | .dec_A => [0x3D]
  | .ld_A_d8 n => [0x3E, n]
  | .ccf => [0x3F]
  | .ld_B_B => [0x40]
  | .ld_B_C => [0x41]
  | .ld_B_D => [0x42]
  | .ld_B_E => [0x43]
  | .ld_B_H => [0x44]
  | .ld_B_L => [0x45]
  | .ld_B_atHL => [0x46]
  | .ld_B_A => [0x47]
  | .ld_C_B => [0x48]
  | .ld_C_C => [0x49]
  | .ld_C_D => [0x4A]
  | .ld_C_E => [0x4B]
  | .ld_C_H => [0x4C]
  | .ld_C_L => [0x4D]
  | .ld_C_atHL => [0x4E]
  | .ld_C_A => [0x4F]
  | .ld_D_B => [0x50]
  | .ld_D_C => [0x51]
  | .ld_D_D => [0x52]
  | .ld_D_E => [0x53]
  | .ld_D_H => [0x54]
  | .ld_D_L => [0x55]
  | .ld_D_atHL => [0x56]
  | .ld_D_A => [0x57]
  | .ld_E_B => [0x58]
  | .ld_E_C => [0x59]
  | .ld_E_D => [0x5A]
  | .ld_E_E => [0x5B]
  | .ld_E_H => [0x5C]
  | .ld_E_L => [0x5D]
  | .ld_E_atHL => [0x5E]
  | .ld_E_A => [0x5F]
  | .ld_H_B => [0x60]
  | .ld_H_C => [0x61]
  | .ld_H_D => [0x62]
  | .ld_H_E => [0x63]
  | .ld_H_H => [0x64]
  | .ld_H_L => [0x65]
  | .ld_H_atHL => [0x66]
  | .ld_H_A => [0x67]
  | .ld_L_B => [0x68]
  | .ld_L_C => [0x69]
  | .ld_L_D => [0x6A]
  | .ld_L_E => [0x6B]
  | .ld_L_H => [0x6C]
  | .ld_L_L => [0x6D]
  | .ld_L_atHL => [0x6E]
  | .ld_L_A => [0x6F]
  | .ld_atHL_B => [0x70]
  | .ld_atHL_C => [0x71]
  | .ld_atHL_D => [0x72]
  | .ld_atHL_E => [0x73]
  | .ld_atHL_H => [0x74]
  | .ld_atHL_L => [0x75]
  | .halt => [0x76]
  | .ld_atHL_A => [0x77]
  | .ld_A_B => [0x78]
  | .ld_A_C => [0x79]
  | .ld_A_D => [0x7A]
  | .ld_A_E => [0x7B]
  | .ld_A_H => [0x7C]
  | .ld_A_L => [0x7D]
  | .ld_A_atHL => [0x7E]
  | .ld_A_A => [0x7F]
  | .add_A_B => [0x80]
  | .add_A_C => [0x81]
  | .add_A_D => [0x82]
  | .add_A_E => [0x83]
  | .add_A_H => [0x84]
  | .add_A_L => [0x85]
  | .add_A_atHL => [0x86]
  | .add_A_A => [0x87]
  | .adc_A_B => [0x88]
  | .adc_A_C => [0x89]
  | .adc_A_D => [0x8A]
  | .adc_A_E => [0x8B]
  | .adc_A_H => [0x8C]
  | .adc_A_L => [0x8D]
  | .adc_A_atHL => [0x8E]
  | .adc_A_A => [0x8F]
  | .sub_B => [0x90]
  | .sub_C => [0x91]
  | .sub_D => [0x92]
  | .sub_E => [0x93]
  | .sub_H => [0x94]
  | .sub_L => [0x95]
  | .sub_atHL => [0x96]
  | .sub_A => [0x97]
  | .sbc_A_B => [0x98]
  | .sbc_A_C => [0x99]
  | .sbc_A_D => [0x9A]
  | .sbc_A_E => [0x9B]
  | .sbc_A_H => [0x9C]
  | .sbc_A_L => [0x9D]
  | .sbc_A_atHL => [0x9E]
  | .sbc_A_A => [0x9F]
  | .and_B => [0xA0]
  | .and_C => [0xA1]
  | .and_D => [0xA2]
  | .and_E => [0xA3]
  | .and_H => [0xA4]
  | .and_L => [0xA5]
  | .and_atHL => [0xA6]
  | .and_A => [0xA7]
  | .xor_B => [0xA8]
  | .xor_C => [0xA9]
  | .xor_D => [0xAA]
  | .xor_E => [0xAB]
  | .xor_H => [0xAC]
  | .xor_L => [0xAD]
  | .xor_atHL => [0xAE]
  | .xor_A => [0xAF]
  | .or_B => [0xB0]
  | .or_C => [0xB1]
  | .or_D => [0xB2]
  | .or_E => [0xB3]
  | .or_H => [0xB4]
  | .or_L => [0xB5]
  | .or_atHL => [0xB6]
  | .or_A => [0xB7]
  | .cp_B => [0xB8]
  | .cp_C => [0xB9]
  | .cp_D => [0xBA]
  | .cp_E => [0xBB]
  | .cp_H => [0xBC]
  | .cp_L => [0xBD]
  | .cp_atHL => [0xBE]
  | .cp_A => [0xBF]
  | .ret_NZ => [0xC0]
  | .pop_BC => [0xC1]
  | .jp_NZ_a16 a => [0xC2, lowByte a, highByte a]
  | .jp_a16 a => [0xC3, lowByte a, highByte a]
  | .call_NZ_a16 a => [0xC4, lowByte a, highByte a]
  | .push_BC => [0xC5]
  | .add_A_d8 n => [0xC6, n]
  | .rst_00 => [0xC7]
  | .ret_Z => [0xC8]
  | .ret => [0xC9]
  | .jp_Z_a16 a => [0xCA, lowByte a, highByte a]
  | .prefix_CB x => [0xCB, x]
  | .call_Z_a16 a => [0xCC, lowByte a, highByte a]
  | .call_a16 a => [0xCD, lowByte a, highByte a]
  | .adc_A_d8 n => [0xCE, n]
  | .rst_08 => [0xCF]
  | .ret_NC => [0xD0]
  | .pop_DE => [0xD1]
  | .jp_NC_a16 a => [0xD2, lowByte a, highByte a]
  | .undefined_D3 => [0xD3]
  | .call_NC_a16 a => [0xD4, lowByte a, highByte a]
  | .push_DE => [0xD5]
  | .sub_d8 n => [0xD6, n]
  | .rst_10 => [0xD7]
  | .ret_C => [0xD8]
  | .reti => [0xD9]
  | .jp_C_a16 a => [0xDA, lowByte a, highByte a]
  | .undefined_DB => [0xDB]
  | .call_C_a16 a => [0xDC, lowByte a, highByte a]
  | .undefined_DD => [0xDD]
  | .sbc_A_d8 n => [0xDE, n]
  | .rst_18 => [0xDF]
  | .ldh_atA8_A n => [0xE0, n]
  | .pop_HL => [0xE1]
  | .ld_atC_A => [0xE2]
  | .undefined_E3 => [0xE3]
  | .undefined_E4 => [0xE4]
  | .push_HL => [0xE5]
  | .and_d8 n => [0xE6, n]
  | .rst_20 => [0xE7]
  | .add_SP_e8 e => [0xE8, e]
  | .jp_atHL => [0xE9]
  | .ld_atA16_A a => [0xEA, lowByte a, highByte a]
  | .undefined_EB => [0xEB]
  | .undefined_EC => [0xEC]
  | .undefined_ED => [0xED]
  | .xor_d8 n => [0xEE, n]
  | .rst_28 => [0xEF]
  | .ldh_A_atA8 n => [0xF0, n]
  | .pop_AF => [0xF1]
  | .ld_A_atC => [0xF2]
  | .di => [0xF3]
  | .undefined_F4 => [0xF4]
  | .push_AF => [0xF5]
  | .or_d8 n => [0xF6, n]
  | .rst_30 => [0xF7]
  | .ld_HL_SPe8 e => [0xF8, e]
  | .ld_SP_HL => [0xF9]
  | .ld_A_atA16 a => [0xFA, lowByte a, highByte a]
  | .ei => [0xFB]
  | .undefined_FC => [0xFC]
  | .undefined_FD => [0xFD]
  | .cp_d8 n => [0xFE, n]
  | .rst_38 => [0xFF]
  | .rlc_B => [0xCB, 0x00]
  | .rlc_C => [0xCB, 0x01]
  | .rlc_D => [0xCB, 0x02]
  | .rlc_E => [0xCB, 0x03]
  | .rlc_H => [0xCB, 0x04]
  | .rlc_L => [0xCB, 0x05]
  | .rlc_atHL => [0xCB, 0x06]
  | .rlc_A => [0xCB, 0x07]
  | .rrc_B => [0xCB, 0x08]
  | .rrc_C => [0xCB, 0x09]
  | .rrc_D => [0xCB, 0x0A]
  | .rrc_E => [0xCB, 0x0B]
  | .rrc_H => [0xCB, 0x0C]
  | .rrc_L => [0xCB, 0x0D]
  | .rrc_atHL => [0xCB, 0x0E]
  | .rrc_A => [0xCB, 0x0F]
  | .rl_B => [0xCB, 0x10]
  | .rl_C => [0xCB, 0x11]
  | .rl_D => [0xCB, 0x12]
  | .rl_E => [0xCB, 0x13]
  | .rl_H => [0xCB, 0x14]
  | .rl_L => [0xCB, 0x15]
  | .rl_atHL => [0xCB, 0x16]
  | .rl_A => [0xCB, 0x17]
  | .rr_B => [0xCB, 0x18]
  | .rr_C => [0xCB, 0x19]
  | .rr_D => [0xCB, 0x1A]
  | .rr_E => [0xCB, 0x1B]
  | .rr_H => [0xCB, 0x1C]
  | .rr_L => [0xCB, 0x1D]
  | .rr_atHL => [0xCB, 0x1E]
  | .rr_A => [0xCB, 0x1F]
  | .sla_B => [0xCB, 0x20]
  | .sla_C => [0xCB, 0x21]
  | .sla_D => [0xCB, 0x22]
  | .sla_E => [0xCB, 0x23]
  | .sla_H => [0xCB, 0x24]
  | .sla_L => [0xCB, 0x25]
  | .sla_atHL => [0xCB, 0x26]
  | .sla_A => [0xCB, 0x27]
  | .sra_B => [0xCB, 0x28]
  | .sra_C => [0xCB, 0x29]
  | .sra_D => [0xCB, 0x2A]
  | .sra_E => [0xCB, 0x2B]
  | .sra_H => [0xCB, 0x2C]
  | .sra_L => [0xCB, 0x2D]
  | .sra_atHL => [0xCB, 0x2E]
  | .sra_A => [0xCB, 0x2F]
  | .swap_B => [0xCB, 0x30]
  | .swap_C => [0xCB, 0x31]
  | .swap_D => [0xCB, 0x32]
  | .swap_E => [0xCB, 0x33]
  | .swap_H => [0xCB, 0x34]
  | .swap_L => [0xCB, 0x35]
  | .swap_atHL => [0xCB, 0x36]
  | .swap_A => [0xCB, 0x37]
  | .srl_B => [0xCB, 0x38]
  | .srl_C => [0xCB, 0x39]
  | .srl_D => [0xCB, 0x3A]
  | .srl_E => [0xCB, 0x3B]
  | .srl_H => [0xCB, 0x3C]
  | .srl_L => [0xCB, 0x3D]
  | .srl_atHL => [0xCB, 0x3E]
  | .srl_A => [0xCB, 0x3F]
  | .bit_0_B => [0xCB, 0x40]
  | .bit_0_C => [0xCB, 0x41]
  | .bit_0_D => [0xCB, 0x42]
  | .bit_0_E => [0xCB, 0x43]
  | .bit_0_H => [0xCB, 0x44]
  | .bit_0_L => [0xCB, 0x45]
  | .bit_0_atHL => [0xCB, 0x46]
  | .bit_0_A => [0xCB, 0x47]
  | .bit_1_B => [0xCB, 0x48]
  | .bit_1_C => [0xCB, 0x49]
  | .bit_1_D => [0xCB, 0x4A]
  | .bit_1_E => [0xCB, 0x4B]
  | .bit_1_H => [0xCB, 0x4C]
  | .bit_1_L => [0xCB, 0x4D]
  | .bit_1_atHL => [0xCB, 0x4E]
  | .bit_1_A => [0xCB, 0x4F]
  | .bit_2_B => [0xCB, 0x50]
  | .bit_2_C => [0xCB, 0x51]
  | .bit_2_D => [0xCB, 0x52]
  | .bit_2_E => [0xCB, 0x53]
  | .bit_2_H => [0xCB, 0x54]
  | .bit_2_L => [0xCB, 0x55]
  | .bit_2_atHL => [0xCB, 0x56]
  | .bit_2_A => [0xCB, 0x57]
  | .bit_3_B => [0xCB, 0x58]
  | .bit_3_C => [0xCB, 0x59]
  | .bit_3_D => [0xCB, 0x5A]
  | .bit_3_E => [0xCB, 0x5B]
  | .bit_3_H => [0xCB, 0x5C]
  | .bit_3_L => [0xCB, 0x5D]
  | .bit_3_atHL => [0xCB, 0x5E]
  | .bit_3_A => [0xCB, 0x5F]
  | .bit_4_B => [0xCB, 0x60]
  | .bit_4_C => [0xCB, 0x61]
  | .bit_4_D => [0xCB, 0x62]
  | .bit_4_E => [0xCB, 0x63]
  | .bit_4_H => [0xCB, 0x64]
  | .bit_4_L => [0xCB, 0x65]
  | .bit_4_atHL => [0xCB, 0x66]
  | .bit_4_A => [0xCB, 0x67]
  | .bit_5_B => [0xCB, 0x68]
  | .bit_5_C => [0xCB, 0x69]
  | .bit_5_D => [0xCB, 0x6A]
  | .bit_5_E => [0xCB, 0x6B]
  | .bit_5_H => [0xCB, 0x6C]
  | .bit_5_L => [0xCB, 0x6D]
  | .bit_5_atHL => [0xCB, 0x6E]
  | .bit_5_A => [0xCB, 0x6F]
  | .bit_6_B => [0xCB, 0x70]
  | .bit_6_C => [0xCB, 0x71]
  | .bit_6_D => [0xCB, 0x72]
  | .bit_6_E => [0xCB, 0x73]
  | .bit_6_H => [0xCB, 0x74]
  | .bit_6_L => [0xCB, 0x75]
  | .bit_6_atHL => [0xCB, 0x76]
  | .bit_6_A => [0xCB, 0x77]
  | .bit_7_B => [0xCB, 0x78]
  | .bit_7_C => [0xCB, 0x79]
  | .bit_7_D => [0xCB, 0x7A]
  | .bit_7_E => [0xCB, 0x7B]
  | .bit_7_H => [0xCB, 0x7C]
  | .bit_7_L => [0xCB, 0x7D]
  | .bit_7_atHL => [0xCB, 0x7E]
  | .bit_7_A => [0xCB, 0x7F]
  | .res_0_B => [0xCB, 0x80]
  | .res_0_C => [0xCB, 0x81]
  | .res_0_D => [0xCB, 0x82]
  | .res_0_E => [0xCB, 0x83]
  | .res_0_H => [0xCB, 0x84]
  | .res_0_L => [0xCB, 0x85]
  | .res_0_atHL => [0xCB, 0x86]
  | .res_0_A => [0xCB, 0x87]
  | .res_1_B => [0xCB, 0x88]
  | .res_1_C => [0xCB, 0x89]
  | .res_1_D => [0xCB, 0x8A]
  | .res_1_E => [0xCB, 0x8B]
  | .res_1_H => [0xCB, 0x8C]
  | .res_1_L => [0xCB, 0x8D]
  | .res_1_atHL => [0xCB, 0x8E]
  | .res_1_A => [0xCB, 0x8F]
  | .res_2_B => [0xCB, 0x90]
  | .res_2_C => [0xCB, 0x91]
  | .res_2_D => [0xCB, 0x92]
  | .res_2_E => [0xCB, 0x93]
  | .res_2_H => [0xCB, 0x94]
  | .res_2_L => [0xCB, 0x95]
  | .res_2_atHL => [0xCB, 0x96]
  | .res_2_A => [0xCB, 0x97]
  | .res_3_B => [0xCB, 0x98]
  | .res_3_C => [0xCB, 0x99]
  | .res_3_D => [0xCB, 0x9A]
  | .res_3_E => [0xCB, 0x9B]
  | .res_3_H => [0xCB, 0x9C]
  | .res_3_L => [0xCB, 0x9D]
  | .res_3_atHL => [0xCB, 0x9E]
  | .res_3_A => [0xCB, 0x9F]
  | .res_4_B => [0xCB, 0xA0]
  | .res_4_C => [0xCB, 0xA1]
  | .res_4_D => [0xCB, 0xA2]
  | .res_4_E => [0xCB, 0xA3]
  | .res_4_H => [0xCB, 0xA4]
  | .res_4_L => [0xCB, 0xA5]
  | .res_4_atHL => [0xCB, 0xA6]
  | .res_4_A => [0xCB, 0xA7]
  | .res_5_B => [0xCB, 0xA8]
  | .res_5_C => [0xCB, 0xA9]
  | .res_5_D => [0xCB, 0xAA]
  | .res_5_E => [0xCB, 0xAB]
  | .res_5_H => [0xCB, 0xAC]
  | .res_5_L => [0xCB, 0xAD]
  | .res_5_atHL => [0xCB, 0xAE]
  | .res_5_A => [0xCB, 0xAF]
  | .res_6_B => [0xCB, 0xB0]
  | .res_6_C => [0xCB, 0xB1]
  | .res_6_D => [0xCB, 0xB2]
  | .res_6_E => [0xCB, 0xB3]
  | .res_6_H => [0xCB, 0xB4]
  | .res_6_L => [0xCB, 0xB5]
  | .res_6_atHL => [0xCB, 0xB6]
  | .res_6_A => [0xCB, 0xB7]
  | .res_7_B => [0xCB, 0xB8]
  | .res_7_C => [0xCB, 0xB9]
  | .res_7_D => [0xCB, 0xBA]
  | .res_7_E => [0xCB, 0xBB]
  | .res_7_H => [0xCB, 0xBC]
  | .res_7_L => [0xCB, 0xBD]
  | .res_7_atHL => [0xCB, 0xBE]
  | .res_7_A => [0xCB, 0xBF]
  | .set_0_B => [0xCB, 0xC0]
  | .set_0_C => [0xCB, 0xC1]
  | .set_0_D => [0xCB, 0xC2]
  | .set_0_E => [0xCB, 0xC3]
  | .set_0_H => [0xCB, 0xC4]
  | .set_0_L => [0xCB, 0xC5]
  | .set_0_atHL => [0xCB, 0xC6]
  | .set_0_A => [0xCB, 0xC7]
  | .set_1_B => [0xCB, 0xC8]
  | .set_1_C => [0xCB, 0xC9]
  | .set_1_D => [0xCB, 0xCA]
  | .set_1_E => [0xCB, 0xCB]
  | .set_1_H => [0xCB, 0xCC]
  | .set_1_L => [0xCB, 0xCD]
  | .set_1_atHL => [0xCB, 0xCE]
  | .set_1_A => [0xCB, 0xCF]
  | .set_2_B => [0xCB, 0xD0]
  | .set_2_C => [0xCB, 0xD1]
  | .set_2_D => [0xCB, 0xD2]
  | .set_2_E => [0xCB, 0xD3]
  | .set_2_H => [0xCB, 0xD4]
  | .set_2_L => [0xCB, 0xD5]
  | .set_2_atHL => [0xCB, 0xD6]
  | .set_2_A => [0xCB, 0xD7]
  | .set_3_B => [0xCB, 0xD8]
  | .set_3_C => [0xCB, 0xD9]
  | .set_3_D => [0xCB, 0xDA]
  | .set_3_E => [0xCB, 0xDB]
  | .set_3_H => [0xCB, 0xDC]
  | .set_3_L => [0xCB, 0xDD]
  | .set_3_atHL => [0xCB, 0xDE]
  | .set_3_A => [0xCB, 0xDF]
  | .set_4_B => [0xCB, 0xE0]
  | .set_4_C => [0xCB, 0xE1]
  | .set_4_D => [0xCB, 0xE2]
  | .set_4_E => [0xCB, 0xE3]
  | .set_4_H => [0xCB, 0xE4]
  | .set_4_L => [0xCB, 0xE5]
  | .set_4_atHL => [0xCB, 0xE6]
  | .set_4_A => [0xCB, 0xE7]
  | .set_5_B => [0xCB, 0xE8]
  | .set_5_C => [0xCB, 0xE9]
  | .set_5_D => [0xCB, 0xEA]
  | .set_5_E => [0xCB, 0xEB]
  | .set_5_H => [0xCB, 0xEC]
  | .set_5_L => [0xCB, 0xED]
  | .set_5_atHL => [0xCB, 0xEE]
  | .set_5_A => [0xCB, 0xEF]
  | .set_6_B => [0xCB, 0xF0]
  | .set_6_C => [0xCB, 0xF1]
  | .set_6_D => [0xCB, 0xF2]
  | .set_6_E => [0xCB, 0xF3]
  | .set_6_H => [0xCB, 0xF4]
  | .set_6_L => [0xCB, 0xF5]
  | .set_6_atHL => [0xCB, 0xF6]
  | .set_6_A => [0xCB, 0xF7]
  | .set_7_B => [0xCB, 0xF8]
  | .set_7_C => [0xCB, 0xF9]
  | .set_7_D => [0xCB, 0xFA]
  | .set_7_E => [0xCB, 0xFB]
  | .set_7_H => [0xCB, 0xFC]
  | .set_7_L => [0xCB, 0xFD]
  | .set_7_atHL => [0xCB, 0xFE]
  | .set_7_A => [0xCB, 0xFF]

/-! ## Words as the opcode table numbers them -/

/-- The three bytes, lowest address first, of the instruction whose table word is `w` of `nbits` bits, the bits above
`nbits` being 0. The table gives a primary row its first byte (bits 7-0) and numbers an extended row as
`(byte0 << 8) | byte1` (R101), so a 16-bit word whose high byte is 0xCB is stored high byte first; any other word is
stored low byte first (log 14). -/
def tableBytes (nbits w : Nat) : List Byte :=
  if 8 < nbits ∧ w / 256 = 0xCB then [0xCB, BitVec.ofNat 8 w, 0]
  else [BitVec.ofNat 8 w, BitVec.ofNat 8 (w / 256), BitVec.ofNat 8 (w / 65536)]

/-- The instruction the decoder reads from a table word. The 8-bit word 0xCB is the prefix row itself, the first stage of
the decode (R113; log 13); every other word is decoded whole. -/
def decodeTableWord (nbits w : Nat) : Option Instr :=
  if nbits ≤ 8 ∧ w = 0xCB then some (decodePrimary 0xCB 0 0)
  else
    match decode (tableBytes nbits w) with
    | .ok (i, _) => some i
    | .error _ => none

end Sys2Proof
end

