-- ==== Sys2Proof/Config.lean ====
section
/-! DEFINITION. The parameters the spec makes arguments of the model (00_scope.md R6) and the host's draws, which are
free values: opaque constants of which no proof can see a value (log 6, 7, 8). -/

namespace Sys2Proof

/-- One pixel: three 8-bit values (10_state.md R43). -/
structure Rgb where
  red : Byte
  green : Byte
  blue : Byte
deriving DecidableEq, Repr

/-- The cleared pixel (0,0,0) of 10_state.md R58. -/
def Rgb.black : Rgb := { red := 0, green := 0, blue := 0 }

/-- The named parameters of 00_scope.md R6 that stay fixed while the machine runs. `shadeK` is `SHADE_RGB[K]`. -/
structure Params where
  randomAddr : Word
  shade0 : Rgb
  shade1 : Rgb
  shade2 : Rgb
  shade3 : Rgb
deriving DecidableEq, Repr

/-- `SHADE_RGB[k]` (92_eei_decisions.md D29). -/
def Params.shade (p : Params) (k : BitVec 2) : Rgb :=
  if k = 0 then p.shade0 else if k = 1 then p.shade1 else if k = 2 then p.shade2 else p.shade3

/-- The values of `RANDOM_ADDR` that 20_memory.md R79 admits: inside 0xFF01-0xFF7F and none of IF, the PPU-held
registers and DMA. The model refuses any other value. -/
def Params.legal (p : Params) : Bool :=
  decide (0xFF01 ≤ p.randomAddr.toNat ∧ p.randomAddr.toNat ≤ 0xFF7F) &&
    !([0xFF0F, 0xFF40, 0xFF42, 0xFF43, 0xFF46, 0xFF47, 0xFF48, 0xFF49].contains p.randomAddr.toNat)

/-- The spec's defaults: RANDOM_ADDR D25, SHADE_RGB D29. -/
def Params.default : Params where
  randomAddr := 0xFF04
  shade0 := { red := 255, green := 255, blue := 255 }
  shade1 := { red := 192, green := 192, blue := 192 }
  shade2 := { red := 96, green := 96, blue := 96 }
  shade3 := { red := 0, green := 0, blue := 0 }

/-- FREE VALUE. `DIR` of the n-th joypad read (20_memory.md R77, D45): the direction group, active low. -/
opaque Config.hostDir : Nat → BitVec 4

/-- FREE VALUE. `ACT` of the n-th joypad read (20_memory.md R77, D45): the action group, active low. -/
opaque Config.hostAct : Nat → BitVec 4

/-- FREE VALUE. `RND` of the n-th read of `RANDOM_ADDR` (20_memory.md R79): any byte. -/
opaque Config.hostRnd : Nat → Byte

end Sys2Proof
end

