-- ==== Sys2Proof/Machine/Cartridge.lean ====
section
/-! DEFINITION. The cartridge-type tag. -/

namespace Sys2Proof.Machine

/-- "a cartridge-type tag from a closed set" (10_state.md R35). No rule of the core reads it. -/
inductive CartType where
  | plain
  | mapper
  | mapperRam
  | unknown
deriving DecidableEq, Repr

/-- The tag of the image's byte 0x0147 (10_state.md R59): any value but the three named ones is Unknown. -/
def CartType.ofByte (v : Byte) : CartType :=
  if v = 0x00 then .plain else if v = 0x01 then .mapper else if v = 0x02 then .mapperRam else .unknown

end Sys2Proof.Machine
end

