-- ==== Sys2Proof/Machine/Memory.lean ====
section
/-! DEFINITION. Sparse tables in one canonical form: memory (address, byte) and screen (line number, line). An index that
is not listed reads as the table's default. The form is kept by every operation (Laws/Memory.lean). -/

namespace Sys2Proof.Machine

/-- The entry at index `a`, or the default `d`. -/
def Sparse.get {α : Type} (d : α) : List (Nat × α) → Nat → α
  | [], _ => d
  | c :: t, a => if c.1 = a then c.2 else Sparse.get d t a

/-- Every entry at index `a` taken out. -/
def Sparse.erase {α : Type} (m : List (Nat × α)) (a : Nat) : List (Nat × α) :=
  m.filter fun c => c.1 != a

/-- An entry put before the first larger index. -/
def Sparse.insert {α : Type} : List (Nat × α) → Nat → α → List (Nat × α)
  | [], a, v => [(a, v)]
  | c :: t, a, v => if a < c.1 then (a, v) :: c :: t else c :: Sparse.insert t a v

/-- Index `a` made to read as `v`: writing the default takes the entry out. -/
def Sparse.set {α : Type} [DecidableEq α] (d : α) (m : List (Nat × α)) (a : Nat) (v : α) : List (Nat × α) :=
  if v = d then Sparse.erase m a else Sparse.insert (Sparse.erase m a) a v

/-- The canonical form: indexes strictly rising, no entry equal to the default. -/
abbrev Sparse.wf {α : Type} [DecidableEq α] (d : α) (m : List (Nat × α)) : Prop :=
  m.Pairwise (fun c e => c.1 < e.1) ∧ ∀ c ∈ m, c.2 ≠ d

/-- Memory: (address, byte) pairs. -/
abbrev Memory := List Host.Cell

/-- What an address that is not listed reads as: 0x00 (log 2, 3, 5). -/
def Memory.blank : Byte := 0

/-- The byte at address `a`. -/
def Memory.read (m : Memory) (a : Nat) : Byte := Sparse.get Memory.blank m a

/-- The memory after `v` is stored at address `a`. -/
def Memory.write (m : Memory) (a : Nat) (v : Byte) : Memory := Sparse.set Memory.blank m a v

/-- The canonical form of a memory. -/
abbrev Memory.wf (m : Memory) : Prop := Sparse.wf Memory.blank m

end Sys2Proof.Machine
end

