-- ==== Sys2Proof/Machine/Palette.lean ====
section
/-! DEFINITION. Decoded palettes (10_state.md R41, 60_exceptions.md R350). -/

namespace Sys2Proof.Machine

/-- "4-entry ... palettes (each entry an RGB triple)". -/
structure Palette where
  entry0 : Rgb
  entry1 : Rgb
  entry2 : Rgb
  entry3 : Rgb
deriving DecidableEq, Repr

/-- The entry a 2-bit colour index selects. -/
def Palette.entry (p : Palette) (i : BitVec 2) : Rgb :=
  if i = 0 then p.entry0 else if i = 1 then p.entry1 else if i = 2 then p.entry2 else p.entry3

/-- The four entries of the raw byte `raw`: entry i is `SHADE_RGB[(raw >> 2i) & 3]` (10_state.md R41, D29). -/
def decodePalette (p : Params) (raw : Byte) : Palette where
  entry0 := p.shade (raw.extractLsb' 0 2)
  entry1 := p.shade (raw.extractLsb' 2 2)
  entry2 := p.shade (raw.extractLsb' 4 2)
  entry3 := p.shade (raw.extractLsb' 6 2)

end Sys2Proof.Machine
end

