-- ==== Sys2Proof/Machine/State.lean ====
section
/-! DEFINITION. The machine state: one aggregate of plain data holding every piece of state the spec names
(10_state.md), the reasons a step can stop, and the state after reset (70_reset_and_hazards.md R371). -/

namespace Sys2Proof.Machine

/-- The CPU register file (10_state.md R20, R27, R28). `f` holds Z, N, H, C in bits 7 to 4 (R22); the pairs are views of
it (Operands.lean). -/
structure Regs where
  a : Byte
  f : Byte
  b : Byte
  c : Byte
  d : Byte
  e : Byte
  h : Byte
  l : Byte
  sp : Word
  pc : Word
deriving DecidableEq, Repr

/-- The spec's closed list of faults with the information each records (60_exceptions.md R301). -/
inductive FaultInfo where
  /-- F1. A primary opcode with no handler; `pc` is the opcode's address + 1 (44_system.md R245). -/
  | undefinedOpcode (op : Byte) (pc : Word)
  /-- F2. A bus access outside every region; unreachable with the map of 20_memory.md R61 (R82). -/
  | addressDecode (addr : Word)
  /-- F3. A read of 0x0000-0x7FFF at or beyond the image length, by a fetch, an immediate, a data or stack read or a
  DMA source read (20_memory.md R64). -/
  | romReadBeyondImage (addr : Word)
  /-- F4. HALT with IME = 0 and an enabled source pending; `pc` is the HALT's address + 1 (44_system.md R241). -/
  | haltBugUnmodelled (pc : Word)
  /-- F5. STOP; `pc` is the address of the 0x10 + 1 (44_system.md R242). -/
  | stopUnmodelled (pc : Word)
deriving DecidableEq, Repr

/-- The PPU's modes (10_state.md R36). -/
inductive PpuMode where
  | oamScan
  | pixelTransfer
  | hblank
  | vblank
deriving DecidableEq, Repr

/-- One framebuffer line: 160 pixels. -/
abbrev Line := List Rgb

/-- A line as it is after reset: every pixel (0,0,0) (10_state.md R58). -/
def blankLine : Line := List.replicate 160 Rgb.black

/-- The framebuffer by line: a line that is not listed is blank (10_state.md R43; log 18). -/
abbrev Screen := List (Nat × Line)

/-- The PPU's state (10_state.md R36-R44). `presented` is the model's own record of the `present` events, newest first
(60_exceptions.md R345; log 11). The tile cache is `State.tilePixel`, recomputed from VRAM as R42 allows. -/
structure Ppu where
  mode : PpuMode
  ly : Nat
  dots : Nat
  lcdc : Byte
  scy : Byte
  scx : Byte
  bgp : Byte
  obp0 : Byte
  obp1 : Byte
  bgPal : Palette
  objPal0 : Palette
  objPal1 : Palette
  fb : Screen
  bgidx : List (BitVec 2)
  presented : List Screen
deriving DecidableEq, Repr

/-- The whole machine. `mem` holds VRAM, ERAM, WRAM, OAM, HRAM and the I/O storage at their bus addresses (10_state.md
R34); IE and IF have homes of their own (R32, R33; log 17). `cost`, `joypadDraws` and `rndDraws` are the model's own
(log 8, 10). -/
structure State where
  regs : Regs
  ime : Bool
  halted : Bool
  fault : Option FaultInfo
  ie : Byte
  ifl : Byte
  rom : Memory
  romSize : Nat
  cartType : CartType
  mem : Memory
  ppu : Ppu
  totalCycles : Nat
  params : Params
  cost : Nat
  joypadDraws : Nat
  rndDraws : Nat
deriving DecidableEq, Repr

/-- Why a step stops with a fault. -/
inductive Fault where
  /-- The machine is in the faulted state `final`, which has no further step (10_state.md R31, 60_exceptions.md R300).
  Raised by the iteration whose operation raises `info` (`final` keeps the changes made before it, R303), and by any
  step from a state that is already faulted. Safe: nothing runs on (log 1). -/
  | raised (info : FaultInfo) (final : State)
deriving DecidableEq, Repr

/-- Why a step is refused. -/
inductive Refusal where
  /-- An arm of `exec` that has no meaning yet. No arm of this model answers it. Safe. -/
  | notModelled (mnemonic : String)
  /-- `RANDOM_ADDR` has a value that 20_memory.md R79 says a model refuses; raised by `step`. Safe. -/
  | illegalRandomAddr (addr : Word)
deriving DecidableEq, Repr

/-- The default of `CPU_INIT` (10_state.md R53; log 4). -/
def Regs.initial : Regs where
  a := 0x01
  f := 0xB0
  b := 0x00
  c := 0x13
  d := 0x00
  e := 0xD8
  h := 0x01
  l := 0x4D
  sp := 0xFFFE
  pc := 0x0100

/-- The PPU after reset (10_state.md R58). -/
def Ppu.initial (p : Params) : Ppu where
  mode := .oamScan
  ly := 0
  dots := 0
  lcdc := 0x91
  scy := 0x00
  scx := 0x00
  bgp := 0xFC
  obp0 := 0xFF
  obp1 := 0xFF
  bgPal := decodePalette p 0xFC
  objPal0 := decodePalette p 0xFF
  objPal1 := decodePalette p 0xFF
  fb := []
  bgidx := List.replicate 160 0
  presented := []

/-- Reset is construction (70_reset_and_hazards.md R370, R371) from the arguments of 00_scope.md R6: the parameters, the
image (`size` bytes, of which `rom` lists the non-zero ones; the spec's premise is size ≥ 0x0148), `CPU_INIT`, and
`RAM_INIT` with `IO_INIT` as one memory `store` at bus addresses. F's low nibble is 0 whatever `cpu` is (R53). -/
def State.construct (p : Params) (size : Nat) (rom : Memory) (cpu : Regs) (store : Memory) : State where
  regs := { cpu with f := cpu.f &&& 0xF0 }
  ime := false
  halted := false
  fault := none
  ie := 0x00
  ifl := 0x00
  rom := rom
  romSize := size
  cartType := CartType.ofByte (rom.read 0x0147)
  mem := store
  ppu := Ppu.initial p
  totalCycles := 0
  params := p
  cost := 0
  joypadDraws := 0
  rndDraws := 0

/-- The state after reset with every parameter at its default and a blank image of 0x8000 bytes (log 2, 3, 4, 5). -/
def State.reset : State := State.construct Params.default 0x8000 [] Regs.initial []

end Sys2Proof.Machine
end

