-- ==== Sys2Proof/Machine/Flags.lean ====
section
/-! DEFINITION. The flag byte F (10_state.md R22-R26) and every flag computation of the spec: results are pairs of the
result byte and the new F, or of the result and the bit shifted out. -/

namespace Sys2Proof.Machine

/-- F with the given flags: bit 7 Z, bit 6 N, bit 5 H, bit 4 C, bits 3-0 zero (10_state.md R22). -/
def packF (z n h c : Bool) : Byte :=
  (if z then 0x80 else 0) ||| (if n then 0x40 else 0) ||| (if h then 0x20 else 0) ||| (if c then 0x10 else 0)

/-- F.Z (10_state.md R22). -/
def State.flagZ (s : State) : Bool := s.regs.f.getLsbD 7

/-- F.N. -/
def State.flagN (s : State) : Bool := s.regs.f.getLsbD 6

/-- F.H. -/
def State.flagH (s : State) : Bool := s.regs.f.getLsbD 5

/-- F.C. -/
def State.flagC (s : State) : Bool := s.regs.f.getLsbD 4

/-- F as it is read: bits 3-0 always read 0 (10_state.md R22). -/
def State.readF (s : State) : Byte := s.regs.f &&& 0xF0

/-- Every write to F stores `v & 0xF0` (10_state.md R22). -/
def State.writeF (s : State) (v : Byte) : State :=
  { s with regs := { s.regs with f := v &&& 0xF0 } }

/-- A write of all four flags; a flag a rule leaves unchanged is passed as it stands. -/
def State.writeFlags (s : State) (z n h c : Bool) : State := s.writeF (packF z n h c)

/-! ## 8-bit arithmetic (41_alu8.md section 1) -/

/-- `add8` (41_alu8.md R160): the sum is computed without truncation, Z is tested on the truncated result
(90_conflicts.md C3). -/
def add8 (a b : Byte) (cin : Bool) : Byte × Byte :=
  let sum := a.toNat + b.toNat + cin.toNat
  let r : Byte := BitVec.ofNat 8 sum
  (r, packF (r == 0) false (decide (a.toNat % 16 + b.toNat % 16 + cin.toNat > 0xF)) (decide (sum > 0xFF)))

/-- `sub8` (41_alu8.md R161): the difference is a signed integer, the result wraps, H and C are borrows. -/
def sub8 (a b : Byte) (cin : Bool) : Byte × Byte :=
  let d : Int := (a.toNat : Int) - b.toNat - cin.toNat
  let r : Byte := BitVec.ofInt 8 d
  (r, packF (r == 0) true
    (decide ((a.toNat : Int) % 16 - (b.toNat : Int) % 16 - cin.toNat < 0)) (decide (d < 0)))

/-- AND (41_alu8.md R174): Z 0 1 0. -/
def and8 (a b : Byte) : Byte × Byte :=
  let r := a &&& b
  (r, packF (r == 0) false true false)

/-- XOR (41_alu8.md R177): Z 0 0 0. -/
def xor8 (a b : Byte) : Byte × Byte :=
  let r := a ^^^ b
  (r, packF (r == 0) false false false)

/-- OR (41_alu8.md R180): Z 0 0 0. -/
def or8 (a b : Byte) : Byte × Byte :=
  let r := a ||| b
  (r, packF (r == 0) false false false)

/-- The operation of the field `o` on A and an operand, with the carry flag as ADC and SBC read it (41_alu8.md
R162-R185). CP computes SUB's result. -/
def aluResult (o : AluOp) (a v : Byte) (c : Bool) : Byte × Byte :=
  match o with
  | .add => add8 a v false
  | .adc => add8 a v c
  | .sub => sub8 a v false
  | .sbc => sub8 a v c
  | .and => and8 a v
  | .xor => xor8 a v
  | .or => or8 a v
  | .cp => sub8 a v false

/-- INC of an 8-bit operand (41_alu8.md R186): Z 0 H, C as it stands. -/
def inc8 (v : Byte) (c : Bool) : Byte × Byte :=
  let r := v + 1
  (r, packF (r == 0) false (v &&& 0xF == 0xF) c)

/-- DEC of an 8-bit operand (41_alu8.md R188): Z 1 H, C as it stands. -/
def dec8 (v : Byte) (c : Bool) : Byte × Byte :=
  let r := v - 1
  (r, packF (r == 0) true (v &&& 0xF == 0) c)

/-- DAA (41_alu8.md R194): A and F from A and the flags N, H, C. Both tests of the N = 0 branch use A as it was. -/
def daa8 (a : Byte) (n h c : Bool) : Byte × Byte :=
  if n then
    let adj : Byte := (if h then 0x06 else 0) ||| (if c then 0x60 else 0)
    let r := a - adj
    (r, packF (r == 0) n false c)
  else
    let high := c || decide (a.toNat > 0x99)
    let adj : Byte := (if h || decide (a.toNat % 16 > 0x09) then 0x06 else 0) ||| (if high then 0x60 else 0)
    let r := a + adj
    (r, packF (r == 0) n false high)

/-! ## Rotates and shifts (41_alu8.md section 4, 45_cb_bitops.md section 1) -/

/-- The carry flag as a byte, 0 or 1. -/
def bitByte (c : Bool) : Byte := if c then 1 else 0

/-- The result of a rotate, shift or swap and the bit that goes to C (45_cb_bitops.md R251, R253, R255, R257, R259, R261,
R263, R265); `c` is F.C, which RL and RR shift in. -/
def rotResult (o : RotOp) (v : Byte) (c : Bool) : Byte × Bool :=
  match o with
  | .rlc => ((v <<< 1) ||| bitByte (v.getLsbD 7), v.getLsbD 7)
  | .rrc => ((v >>> 1) ||| (bitByte (v.getLsbD 0) <<< 7), v.getLsbD 0)
  | .rl => ((v <<< 1) ||| bitByte c, v.getLsbD 7)
  | .rr => ((v >>> 1) ||| (bitByte c <<< 7), v.getLsbD 0)
  | .sla => (v <<< 1, v.getLsbD 7)
  | .sra => ((v >>> 1) ||| (v &&& 0x80), v.getLsbD 0)
  | .swap => (((v &&& 0x0F) <<< 4) ||| (v >>> 4), false)
  | .srl => (v >>> 1, v.getLsbD 0)

/-- F after an extended rotate, shift or swap: Z from the result, N and H cleared, C the bit shifted out. -/
def rotF (r : Byte × Bool) : Byte := packF (r.1 == 0) false false r.2

/-! ## 16-bit arithmetic (42_alu16.md) -/

/-- ADD HL,rr (42_alu16.md R212): the sum with H from bit 11 and C from bit 15; Z as it stands. -/
def addHL16 (hl v : Word) (z : Bool) : Word × Byte :=
  (BitVec.ofNat 16 (hl.toNat + v.toNat),
    packF z false (decide (hl.toNat % 0x1000 + v.toNat % 0x1000 > 0xFFF)) (decide (hl.toNat + v.toNat > 0xFFFF)))

/-- The signed reading of an offset byte (00_scope.md R7, 30_encoding.md R111), extended to 16 bits. -/
def sext8 (e : Byte) : Word := e.signExtend 16

/-- SP + e8 and its flags (42_alu16.md R213, R214; 90_conflicts.md C4): Z and N cleared, H and C from the unsigned sum of
SP's low byte and the offset byte. -/
def addSPe8 (sp : Word) (e : Byte) : Word × Byte :=
  (sp + sext8 e,
    packF false false (decide (sp.toNat % 0x10 + e.toNat % 0x10 > 0xF)) (decide (sp.toNat % 0x100 + e.toNat > 0xFF)))

end Sys2Proof.Machine
end

