-- ==== Sys2Proof/Machine/Operands.lean ====
section
/-! DEFINITION. The register operands: the one place where registers, pairs and conditions are read and written
(10_state.md R20-R22; 30_encoding.md R102-R105). The memory operand (HL) goes through the bus (Ops.lean). -/

namespace Sys2Proof.Machine

/-- `reg8[r]`, r ≠ 6 (30_encoding.md R102). -/
def State.reg8 (s : State) (r : Reg8) : Byte :=
  match r with
  | .b => s.regs.b
  | .c => s.regs.c
  | .d => s.regs.d
  | .e => s.regs.e
  | .h => s.regs.h
  | .l => s.regs.l
  | .a => s.regs.a

/-- `reg8[r] <- v`, r ≠ 6. -/
def State.setReg8 (s : State) (r : Reg8) (v : Byte) : State :=
  match r with
  | .b => { s with regs := { s.regs with b := v } }
  | .c => { s with regs := { s.regs with c := v } }
  | .d => { s with regs := { s.regs with d := v } }
  | .e => { s with regs := { s.regs with e := v } }
  | .h => { s with regs := { s.regs with h := v } }
  | .l => { s with regs := { s.regs with l := v } }
  | .a => { s with regs := { s.regs with a := v } }

/-- BC: the first-named register is the high byte (10_state.md R21). -/
def State.bc (s : State) : Word := wordOf s.regs.b s.regs.c

/-- DE (10_state.md R21). -/
def State.de (s : State) : Word := wordOf s.regs.d s.regs.e

/-- HL (10_state.md R21). -/
def State.hl (s : State) : Word := wordOf s.regs.h s.regs.l

/-- AF; F's low nibble reads 0 (10_state.md R21, R22). -/
def State.af (s : State) : Word := wordOf s.regs.a s.readF

/-- `HL <- v` (10_state.md R21). -/
def State.setHL (s : State) (v : Word) : State :=
  { s with regs := { s.regs with h := highByte v, l := lowByte v } }

/-- `reg16[p]` (30_encoding.md R103). -/
def State.pair (s : State) (p : Pair) : Word :=
  match p with
  | .bc => s.bc
  | .de => s.de
  | .hl => s.hl
  | .sp => s.regs.sp

/-- `reg16[p] <- v` (10_state.md R21). -/
def State.setPair (s : State) (p : Pair) (v : Word) : State :=
  match p with
  | .bc => { s with regs := { s.regs with b := highByte v, c := lowByte v } }
  | .de => { s with regs := { s.regs with d := highByte v, e := lowByte v } }
  | .hl => s.setHL v
  | .sp => { s with regs := { s.regs with sp := v } }

/-- `reg16s[q]` (30_encoding.md R104). -/
def State.stackPair (s : State) (q : StackPair) : Word :=
  match q with
  | .bc => s.bc
  | .de => s.de
  | .hl => s.hl
  | .af => s.af

/-- `reg16s[q] <- v`: a write to AF writes `v[7:0] & 0xF0` to F (10_state.md R21, 40_load.md R146, R147). -/
def State.setStackPair (s : State) (q : StackPair) (v : Word) : State :=
  match q with
  | .bc => s.setPair .bc v
  | .de => s.setPair .de v
  | .hl => s.setPair .hl v
  | .af => { s with regs := { s.regs with a := highByte v, f := lowByte v &&& 0xF0 } }

/-- `PC <- target` (00_scope.md R10). -/
def State.setPC (s : State) (target : Word) : State := { s with regs := { s.regs with pc := target } }

/-- `cond(cc)` (43_control.md R220). -/
def State.cond (s : State) (cc : Cond) : Bool :=
  match cc with
  | .nz => !s.flagZ
  | .z => s.flagZ
  | .nc => !s.flagC
  | .c => s.flagC

end Sys2Proof.Machine
end

