-- ==== Sys2Proof/Machine/Ops.lean ====
section
/-! DEFINITION. The named operations: raising a fault (00_scope.md R10), the bus (20_memory.md), immediates and fetch
(00_scope.md R9, 30_encoding.md R113), the stack (40_load.md R120, R121), taking an interrupt and returning from one
(60_exceptions.md R314, R317). -/

namespace Sys2Proof.Machine

/-! ## Results of operations that may raise -/

/-- An operation ends with a value and the state after it, or has raised a fault; `s` is then the faulted state. -/
inductive Res (α : Type) where
  | ok (val : α) (s : State)
  | raised (info : FaultInfo) (s : State)
deriving DecidableEq, Repr

/-- The three outcomes of an instruction and of a step. -/
abbrev Outcome := Host.Outcome State Fault Refusal

/-- One operation after another; a raise abandons what follows (00_scope.md R10). -/
def Res.andThen {α β : Type} (r : Res α) (k : α → State → Res β) : Res β :=
  match r with
  | .ok v s => k v s
  | .raised info s => .raised info s

/-- `raise`: the machine enters the faulted state with the changes made so far (00_scope.md R10, 10_state.md R31,
60_exceptions.md R303). -/
def raise {α : Type} (info : FaultInfo) (s : State) : Res α := .raised info { s with fault := some info }

/-- The outcome of an instruction: its next state with the cost handed back to the scheduler (00_scope.md R10 `return n`),
or the faulted state. -/
def Res.finish (r : Res Nat) : Outcome :=
  match r with
  | .ok n s => .next { s with cost := n }
  | .raised info s => .fault (.raised info s)

/-- An instruction that raises nothing: its next state with its cost. -/
def done (n : Nat) (s : State) : Outcome := .next { s with cost := n }

/-! ## The bus -/

/-- The regions of 20_memory.md R61. -/
inductive Region where
  | rom
  | vramTiles
  | vramMaps
  | eram
  | wram
  | mirror
  | oam
  | io
  | hram
  | ie
deriving DecidableEq, Repr

/-- The region of an address (20_memory.md R61). `none` would be an address outside every region (R82): there is none
(Laws/Bus.lean). -/
def region (a : Word) : Option Region :=
  let n := a.toNat
  if n < 0x8000 then some .rom
  else if n < 0x9800 then some .vramTiles
  else if n < 0xA000 then some .vramMaps
  else if n < 0xC000 then some .eram
  else if n < 0xE000 then some .wram
  else if n < 0xFE00 then some .mirror
  else if n < 0xFF00 then some .oam
  else if n < 0xFF80 then some .io
  else if n < 0xFFFF then some .hram
  else if n = 0xFFFF then some .ie
  else none

/-- The address whose byte an access reaches: the mirror reaches WRAM (20_memory.md R70, D20). -/
def home (a : Word) : Word := if region a = some .mirror then a - 0x2000 else a

/-- The byte the I/O window holds at `a`: the PPU's register, IF, or the I/O storage (20_memory.md R72, R75, R80). -/
def State.ioByte (s : State) (a : Word) : Byte :=
  if a = 0xFF0F then s.ifl
  else if a = 0xFF40 then s.ppu.lcdc
  else if a = 0xFF42 then s.ppu.scy
  else if a = 0xFF43 then s.ppu.scx
  else if a = 0xFF47 then s.ppu.bgp
  else if a = 0xFF48 then s.ppu.obp0
  else if a = 0xFF49 then s.ppu.obp1
  else s.mem.read a.toNat

/-- The byte the bus holds at `a`, with no fault and no draw: at 0xFF00 and `RANDOM_ADDR` the stored byte. -/
def State.stored (s : State) (a : Word) : Byte :=
  match region a with
  | some .rom => s.rom.read a.toNat
  | some .io => s.ioByte a
  | some .ie => s.ie
  | _ => s.mem.read (home a).toNat

/-- What a joypad read returns for the stored byte `sel` and the draws (20_memory.md R77, D24). -/
def joypadByte (sel : Byte) (dir act : BitVec 4) : Byte :=
  let k : BitVec 4 := (if sel.getLsbD 4 then 0xF else dir) &&& (if sel.getLsbD 5 then 0xF else act)
  0xC0 ||| (sel &&& 0x30) ||| k.setWidth 8

/-- A read in the I/O window (20_memory.md R72, R75, R77, R79, R80): the joypad and the unpredictable register take a
fresh host draw (log 8). -/
def readIo (a : Word) (s : State) : Res Byte :=
  if a = 0xFF00 then
    .ok (joypadByte (s.stored a) (Config.hostDir s.joypadDraws) (Config.hostAct s.joypadDraws))
      { s with joypadDraws := s.joypadDraws + 1 }
  else if a = s.params.randomAddr then .ok (Config.hostRnd s.rndDraws) { s with rndDraws := s.rndDraws + 1 }
  else .ok (s.stored a) s

/-- `read8(a)` = `MemRead(a,1)` (20_memory.md R62, R64, R66, R68-R72, R80, R81). -/
def read8 (a : Word) (s : State) : Res Byte :=
  match region a with
  | none => raise (.addressDecode a) s
  | some .rom => if a.toNat < s.romSize then .ok (s.stored a) s else raise (.romReadBeyondImage a) s
  | some .io => readIo a s
  | some _ => .ok (s.stored a) s

/-- A byte stored in `mem` at an address. -/
def State.storeMem (s : State) (n : Nat) (v : Byte) : State := { s with mem := s.mem.write n v }

/-- The DMA copy: for i = 160 - `left`, ..., 159 in order, `OAM[i] <- read8(src + i)` (20_memory.md R76, D22). -/
def dmaCopy (src : Word) : Nat → State → Res Unit
  | 0, s => .ok () s
  | left + 1, s =>
    (read8 (src + BitVec.ofNat 16 (159 - left)) s).andThen fun v s =>
      dmaCopy src left (s.storeMem (0xFE00 + (159 - left)) v)

/-- A write of LCDC, SCY, SCX or a palette goes to the PPU; a palette's four entries change with its raw byte
(20_memory.md R74, 10_state.md R41). -/
def State.writePpu (s : State) (a : Word) (v : Byte) : State :=
  if a = 0xFF40 then { s with ppu := { s.ppu with lcdc := v } }
  else if a = 0xFF42 then { s with ppu := { s.ppu with scy := v } }
  else if a = 0xFF43 then { s with ppu := { s.ppu with scx := v } }
  else if a = 0xFF47 then { s with ppu := { s.ppu with bgp := v, bgPal := decodePalette s.params v } }
  else if a = 0xFF48 then { s with ppu := { s.ppu with obp0 := v, objPal0 := decodePalette s.params v } }
  else if a = 0xFF49 then { s with ppu := { s.ppu with obp1 := v, objPal1 := decodePalette s.params v } }
  else s

/-- The addresses of the registers the PPU holds (20_memory.md R74). -/
def ppuHeld (a : Word) : Bool :=
  a == 0xFF40 || a == 0xFF42 || a == 0xFF43 || a == 0xFF47 || a == 0xFF48 || a == 0xFF49

/-- A write in the I/O window (20_memory.md R73, R74, R76, R78, R80). -/
def writeIo (a : Word) (v : Byte) (s : State) : Res Unit :=
  if ppuHeld a then .ok () (s.writePpu a v)
  else if a = 0xFF0F then .ok () { s with ifl := v }
  else if a = 0xFF46 then dmaCopy (wordOf v 0) 160 (s.storeMem 0xFF46 v)
  else .ok () (s.storeMem a.toNat v)

/-- `write8(a, v)` = `MemWrite(a,1,v)` (20_memory.md R63, R65-R71, R73, R74, R76, R80, R81). The tile cache follows VRAM by
being computed from it (R67, R83). -/
def write8 (a : Word) (v : Byte) (s : State) : Res Unit :=
  match region a with
  | none => raise (.addressDecode a) s
  | some .rom => .ok () s
  | some .io => writeIo a v s
  | some .ie => .ok () { s with ie := v }
  | some _ => .ok () (s.storeMem (home a).toNat v)

/-- `read16(a)` = `MemRead(a,2)`: low byte at `a`, then high byte at `a + 1` (20_memory.md R84). -/
def read16 (a : Word) (s : State) : Res Word :=
  (read8 a s).andThen fun lo s =>
    (read8 (a + 1) s).andThen fun hi s => .ok (wordOf hi lo) s

/-- `write16(a, v)` = `MemWrite(a,2,v)`: low byte to `a`, then high byte to `a + 1` (20_memory.md R85). -/
def write16 (a : Word) (v : Word) (s : State) : Res Unit :=
  (write8 a (lowByte v) s).andThen fun _ s => write8 (a + 1) (highByte v) s

/-! ## Fetch -/

/-- `imm8()`: the byte at PC, PC advanced (00_scope.md R9). The opcode fetch is the same operation (60_exceptions.md
R330, D41). -/
def imm8 (s : State) : Res Byte :=
  (read8 s.regs.pc s).andThen fun v s => .ok v (s.setPC (s.regs.pc + 1))

/-- The instruction at PC, with PC advanced past the bytes read: the opcode, then its operand bytes in order
(30_encoding.md R113; log 12). -/
def fetch (s : State) : Res Instr :=
  (imm8 s).andThen fun op s =>
    match operandBytes op with
    | 0 => .ok (decodeBytes op 0 0) s
    | 1 => (imm8 s).andThen fun b1 s => .ok (decodeBytes op b1 0) s
    | _ => (imm8 s).andThen fun b1 s => (imm8 s).andThen fun b2 s => .ok (decodeBytes op b1 b2) s

/-- The byte at address `a` put in place without any effect of a write, for loading a program: an image byte (the image
growing to hold it), a PPU register, IF, IE or storage (log 19). -/
def State.placeByte (s : State) (a : Word) (v : Byte) : State :=
  match region a with
  | some .rom => { s with rom := s.rom.write a.toNat v, romSize := max s.romSize (a.toNat + 1) }
  | some .io =>
    if ppuHeld a then s.writePpu a v
    else if a = 0xFF0F then { s with ifl := v }
    else s.storeMem a.toNat v
  | some .ie => { s with ie := v }
  | _ => s.storeMem (home a).toNat v

/-- Bytes put in place from address `a` on. -/
def State.placeBytes (s : State) (a : Word) : List Byte → State
  | [] => s
  | v :: rest => (s.placeByte a v).placeBytes (a + 1) rest

/-! ## The stack -/

/-- `push16(v)`: SP is decremented first (40_load.md R120). -/
def push16 (v : Word) (s : State) : Res Unit :=
  let sp := s.regs.sp - 2
  write16 sp v { s with regs := { s.regs with sp := sp } }

/-- `pop16()`: SP is incremented after the read (40_load.md R121). -/
def pop16 (s : State) : Res Word :=
  (read16 s.regs.sp s).andThen fun v s => .ok v { s with regs := { s.regs with sp := s.regs.sp + 2 } }

/-! ## Interrupts -/

/-- The enabled pending sources, `IE & IF & 0x1F` (60_exceptions.md R312). -/
def State.pending (s : State) : Byte := s.ie &&& s.ifl &&& 0x1F

/-- The index of the lowest set bit of a non-zero mask of five sources (60_exceptions.md R313). -/
def lowestSource (m : Byte) : Nat :=
  if m.getLsbD 0 then 0
  else if m.getLsbD 1 then 1
  else if m.getLsbD 2 then 2
  else if m.getLsbD 3 then 3
  else 4

/-- The vector of source `k`: `0x0040 + 8k` (60_exceptions.md R310). -/
def vector (k : Nat) : Word := 0x0040 + BitVec.ofNat 16 (8 * k)

/-- Taking interrupt source `k`: IME cleared, PC pushed, PC at the vector, the serviced bit of IF cleared directly, in that
order (60_exceptions.md R314, D48). -/
def takeInterrupt (k : Nat) (s : State) : Res Unit :=
  (push16 s.regs.pc { s with ime := false }).andThen fun _ s =>
    let s := s.setPC (vector k)
    .ok () { s with ifl := s.ifl &&& ~~~((1 : Byte) <<< k) }

/-- Return from an interrupt: PC popped and IME set (43_control.md R230, 60_exceptions.md R317). -/
def returnFromInterrupt (s : State) : Res Unit :=
  (pop16 s).andThen fun v s =>
    let s := s.setPC v
    .ok () { s with ime := true }

/-- `irq_step()` with the cost it returns: 20 when it services, 0 otherwise (60_exceptions.md R312, R314, R316, D50). -/
def irqStep (s : State) : Res Nat :=
  if s.ime = true ∧ s.pending ≠ 0 then
    (takeInterrupt (lowestSource s.pending) s).andThen fun _ s => .ok 20 s
  else .ok 0 s

end Sys2Proof.Machine
end

