-- ==== Sys2Proof/Machine/Alu16.lean ====
section
/-! DEFINITION. 16-bit arithmetic (42_alu16.md). PC stands past the instruction's bytes (00_scope.md R11); each definition follows the rule of 42_alu16.md named beside it. -/

namespace Sys2Proof.Machine

/-! ## Shared operations -/

/-- INC rr (R210). -/
def incPair (p : Pair) (s : State) : Outcome := done 8 (s.setPair p (s.pair p + 1))

/-- DEC rr (R211). -/
def decPair (p : Pair) (s : State) : Outcome := done 8 (s.setPair p (s.pair p - 1))

/-- ADD HL,rr (R212). -/
def addHL (p : Pair) (s : State) : Outcome :=
  let r := addHL16 s.hl (s.pair p) s.flagZ
  done 8 ((s.setHL r.1).writeF r.2)

/-- ADD SP,e8 (R213). -/
def addSP (e : Byte) (s : State) : Outcome :=
  let r := addSPe8 s.regs.sp e
  done 16 ((s.setPair .sp r.1).writeF r.2)

/-- LD HL,SP+e8 (R214). -/
def ldHLSP (e : Byte) (s : State) : Outcome :=
  let r := addSPe8 s.regs.sp e
  done 12 ((s.setHL r.1).writeF r.2)

/-! ## The instructions -/

/-- INC BC (R210). -/
def execInc_BC (s : State) : Outcome := incPair .bc s

/-- ADD HL,BC (R212). -/
def execAdd_HL_BC (s : State) : Outcome := addHL .bc s

/-- DEC BC (R211). -/
def execDec_BC (s : State) : Outcome := decPair .bc s

/-- INC DE (R210). -/
def execInc_DE (s : State) : Outcome := incPair .de s

/-- ADD HL,DE (R212). -/
def execAdd_HL_DE (s : State) : Outcome := addHL .de s

/-- DEC DE (R211). -/
def execDec_DE (s : State) : Outcome := decPair .de s

/-- INC HL (R210). -/
def execInc_HL (s : State) : Outcome := incPair .hl s

/-- ADD HL,HL (R212). -/
def execAdd_HL_HL (s : State) : Outcome := addHL .hl s

/-- DEC HL (R211). -/
def execDec_HL (s : State) : Outcome := decPair .hl s

/-- INC SP (R210). -/
def execInc_SP (s : State) : Outcome := incPair .sp s

/-- ADD HL,SP (R212). -/
def execAdd_HL_SP (s : State) : Outcome := addHL .sp s

/-- DEC SP (R211). -/
def execDec_SP (s : State) : Outcome := decPair .sp s

/-- ADD SP,e8 (R213). -/
def execAdd_SP_e8 (e : Byte) (s : State) : Outcome := addSP e s

/-- LD HL,SP+e8 (R214). -/
def execLd_HL_SPe8 (e : Byte) (s : State) : Outcome := ldHLSP e s

end Sys2Proof.Machine
end

