-- ==== Sys2Proof/Machine/Alu8.lean ====
section
/-! DEFINITION. 8-bit arithmetic and logic (41_alu8.md). PC stands past the instruction's bytes (00_scope.md R11); each definition follows the rule of 41_alu8.md named beside it. -/

namespace Sys2Proof.Machine

/-! ## Shared operations -/

/-- The operation `o` on A and the operand `v`: A and F written, F alone by CP (R162-R185). -/
def applyAlu (o : AluOp) (v : Byte) (s : State) : State :=
  let r := aluResult o s.regs.a v s.flagC
  match o with
  | .cp => s.writeF r.2
  | _ => (s.setReg8 .a r.1).writeF r.2

/-- The register forms (R162, R165, R168, R171, R174, R177, R180, R183). -/
def aluReg (o : AluOp) (r : Reg8) (s : State) : Outcome := done 4 (applyAlu o (s.reg8 r) s)

/-- The (HL) forms (R163, R166, R169, R172, R175, R178, R181, R184). -/
def aluAtHL (o : AluOp) (s : State) : Outcome :=
  ((read8 s.hl s).andThen fun v s => .ok 8 (applyAlu o v s)).finish

/-- The d8 forms (R164, R167, R170, R173, R176, R179, R182, R185). -/
def aluImm (o : AluOp) (n : Byte) (s : State) : Outcome := done 8 (applyAlu o n s)

/-- INC r (R186). -/
def incReg (dst : Reg8) (s : State) : Outcome :=
  let r := inc8 (s.reg8 dst) s.flagC
  done 4 ((s.setReg8 dst r.1).writeF r.2)

/-- INC (HL) (R187): read, write, then the flags. -/
def incAtHL (s : State) : Outcome :=
  ((read8 s.hl s).andThen fun v s =>
    (write8 s.hl (inc8 v s.flagC).1 s).andThen fun _ s => .ok 12 (s.writeF (inc8 v s.flagC).2)).finish

/-- DEC r (R188). -/
def decReg (dst : Reg8) (s : State) : Outcome :=
  let r := dec8 (s.reg8 dst) s.flagC
  done 4 ((s.setReg8 dst r.1).writeF r.2)

/-- DEC (HL) (R189): read, write, then the flags. -/
def decAtHL (s : State) : Outcome :=
  ((read8 s.hl s).andThen fun v s =>
    (write8 s.hl (dec8 v s.flagC).1 s).andThen fun _ s => .ok 12 (s.writeF (dec8 v s.flagC).2)).finish

/-- RLCA, RRCA, RLA, RRA (R190-R193): Z is cleared, whatever the result. -/
def rotA (o : RotOp) (s : State) : Outcome :=
  let r := rotResult o s.regs.a s.flagC
  done 4 ((s.setReg8 .a r.1).writeFlags false false false r.2)

/-- DAA (R194). -/
def decimalAdjust (s : State) : Outcome :=
  let r := daa8 s.regs.a s.flagN s.flagH s.flagC
  done 4 ((s.setReg8 .a r.1).writeF r.2)

/-- CPL (R195). -/
def complementA (s : State) : Outcome :=
  done 4 ((s.setReg8 .a (~~~s.regs.a)).writeFlags s.flagZ true true s.flagC)

/-- SCF (R196). -/
def setCarry (s : State) : Outcome := done 4 (s.writeFlags s.flagZ false false true)

/-- CCF (R197). -/
def complementCarry (s : State) : Outcome := done 4 (s.writeFlags s.flagZ false false (!s.flagC))

/-! ## The instructions -/

/-- INC B (R186). -/
def execInc_B (s : State) : Outcome := incReg .b s

/-- DEC B (R188). -/
def execDec_B (s : State) : Outcome := decReg .b s

/-- RLCA (R190). -/
def execRlca (s : State) : Outcome := rotA .rlc s

/-- INC C (R186). -/
def execInc_C (s : State) : Outcome := incReg .c s

/-- DEC C (R188). -/
def execDec_C (s : State) : Outcome := decReg .c s

/-- RRCA (R191). -/
def execRrca (s : State) : Outcome := rotA .rrc s

/-- INC D (R186). -/
def execInc_D (s : State) : Outcome := incReg .d s

/-- DEC D (R188). -/
def execDec_D (s : State) : Outcome := decReg .d s

/-- RLA (R192). -/
def execRla (s : State) : Outcome := rotA .rl s

/-- INC E (R186). -/
def execInc_E (s : State) : Outcome := incReg .e s

/-- DEC E (R188). -/
def execDec_E (s : State) : Outcome := decReg .e s

/-- RRA (R193). -/
def execRra (s : State) : Outcome := rotA .rr s

/-- INC H (R186). -/
def execInc_H (s : State) : Outcome := incReg .h s

/-- DEC H (R188). -/
def execDec_H (s : State) : Outcome := decReg .h s

/-- DAA (R194). -/
def execDaa (s : State) : Outcome := decimalAdjust s

/-- INC L (R186). -/
def execInc_L (s : State) : Outcome := incReg .l s

/-- DEC L (R188). -/
def execDec_L (s : State) : Outcome := decReg .l s

/-- CPL (R195). -/
def execCpl (s : State) : Outcome := complementA s

/-- INC (HL) (R187). -/
def execInc_atHL (s : State) : Outcome := incAtHL s

/-- DEC (HL) (R189). -/
def execDec_atHL (s : State) : Outcome := decAtHL s

/-- SCF (R196). -/
def execScf (s : State) : Outcome := setCarry s

/-- INC A (R186). -/
def execInc_A (s : State) : Outcome := incReg .a s

/-- DEC A (R188). -/
def execDec_A (s : State) : Outcome := decReg .a s

/-- CCF (R197). -/
def execCcf (s : State) : Outcome := complementCarry s

/-- ADD A,B (R162). -/
def execAdd_A_B (s : State) : Outcome := aluReg .add .b s

/-- ADD A,C (R162). -/
def execAdd_A_C (s : State) : Outcome := aluReg .add .c s

/-- ADD A,D (R162). -/
def execAdd_A_D (s : State) : Outcome := aluReg .add .d s

/-- ADD A,E (R162). -/
def execAdd_A_E (s : State) : Outcome := aluReg .add .e s

/-- ADD A,H (R162). -/
def execAdd_A_H (s : State) : Outcome := aluReg .add .h s

/-- ADD A,L (R162). -/
def execAdd_A_L (s : State) : Outcome := aluReg .add .l s

/-- ADD A,(HL) (R163). -/
def execAdd_A_atHL (s : State) : Outcome := aluAtHL .add s

/-- ADD A,A (R162). -/
def execAdd_A_A (s : State) : Outcome := aluReg .add .a s

/-- ADC A,B (R165). -/
def execAdc_A_B (s : State) : Outcome := aluReg .adc .b s

/-- ADC A,C (R165). -/
def execAdc_A_C (s : State) : Outcome := aluReg .adc .c s

/-- ADC A,D (R165). -/
def execAdc_A_D (s : State) : Outcome := aluReg .adc .d s

/-- ADC A,E (R165). -/
def execAdc_A_E (s : State) : Outcome := aluReg .adc .e s

/-- ADC A,H (R165). -/
def execAdc_A_H (s : State) : Outcome := aluReg .adc .h s

/-- ADC A,L (R165). -/
def execAdc_A_L (s : State) : Outcome := aluReg .adc .l s

/-- ADC A,(HL) (R166). -/
def execAdc_A_atHL (s : State) : Outcome := aluAtHL .adc s

/-- ADC A,A (R165). -/
def execAdc_A_A (s : State) : Outcome := aluReg .adc .a s

/-- SUB B (R168). -/
def execSub_B (s : State) : Outcome := aluReg .sub .b s

/-- SUB C (R168). -/
def execSub_C (s : State) : Outcome := aluReg .sub .c s

/-- SUB D (R168). -/
def execSub_D (s : State) : Outcome := aluReg .sub .d s

/-- SUB E (R168). -/
def execSub_E (s : State) : Outcome := aluReg .sub .e s

/-- SUB H (R168). -/
def execSub_H (s : State) : Outcome := aluReg .sub .h s

/-- SUB L (R168). -/
def execSub_L (s : State) : Outcome := aluReg .sub .l s

/-- SUB (HL) (R169). -/
def execSub_atHL (s : State) : Outcome := aluAtHL .sub s

/-- SUB A (R168). -/
def execSub_A (s : State) : Outcome := aluReg .sub .a s

/-- SBC A,B (R171). -/
def execSbc_A_B (s : State) : Outcome := aluReg .sbc .b s

/-- SBC A,C (R171). -/
def execSbc_A_C (s : State) : Outcome := aluReg .sbc .c s

/-- SBC A,D (R171). -/
def execSbc_A_D (s : State) : Outcome := aluReg .sbc .d s

/-- SBC A,E (R171). -/
def execSbc_A_E (s : State) : Outcome := aluReg .sbc .e s

/-- SBC A,H (R171). -/
def execSbc_A_H (s : State) : Outcome := aluReg .sbc .h s

/-- SBC A,L (R171). -/
def execSbc_A_L (s : State) : Outcome := aluReg .sbc .l s

/-- SBC A,(HL) (R172). -/
def execSbc_A_atHL (s : State) : Outcome := aluAtHL .sbc s

/-- SBC A,A (R171). -/
def execSbc_A_A (s : State) : Outcome := aluReg .sbc .a s

/-- AND B (R174). -/
def execAnd_B (s : State) : Outcome := aluReg .and .b s

/-- AND C (R174). -/
def execAnd_C (s : State) : Outcome := aluReg .and .c s

/-- AND D (R174). -/
def execAnd_D (s : State) : Outcome := aluReg .and .d s

/-- AND E (R174). -/
def execAnd_E (s : State) : Outcome := aluReg .and .e s

/-- AND H (R174). -/
def execAnd_H (s : State) : Outcome := aluReg .and .h s

/-- AND L (R174). -/
def execAnd_L (s : State) : Outcome := aluReg .and .l s

/-- AND (HL) (R175). -/
def execAnd_atHL (s : State) : Outcome := aluAtHL .and s

/-- AND A (R174). -/
def execAnd_A (s : State) : Outcome := aluReg .and .a s

/-- XOR B (R177). -/
def execXor_B (s : State) : Outcome := aluReg .xor .b s

/-- XOR C (R177). -/
def execXor_C (s : State) : Outcome := aluReg .xor .c s

/-- XOR D (R177). -/
def execXor_D (s : State) : Outcome := aluReg .xor .d s

/-- XOR E (R177). -/
def execXor_E (s : State) : Outcome := aluReg .xor .e s

/-- XOR H (R177). -/
def execXor_H (s : State) : Outcome := aluReg .xor .h s

/-- XOR L (R177). -/
def execXor_L (s : State) : Outcome := aluReg .xor .l s

/-- XOR (HL) (R178). -/
def execXor_atHL (s : State) : Outcome := aluAtHL .xor s

/-- XOR A (R177). -/
def execXor_A (s : State) : Outcome := aluReg .xor .a s

/-- OR B (R180). -/
def execOr_B (s : State) : Outcome := aluReg .or .b s

/-- OR C (R180). -/
def execOr_C (s : State) : Outcome := aluReg .or .c s

/-- OR D (R180). -/
def execOr_D (s : State) : Outcome := aluReg .or .d s

/-- OR E (R180). -/
def execOr_E (s : State) : Outcome := aluReg .or .e s

/-- OR H (R180). -/
def execOr_H (s : State) : Outcome := aluReg .or .h s

/-- OR L (R180). -/
def execOr_L (s : State) : Outcome := aluReg .or .l s

/-- OR (HL) (R181). -/
def execOr_atHL (s : State) : Outcome := aluAtHL .or s

/-- OR A (R180). -/
def execOr_A (s : State) : Outcome := aluReg .or .a s

/-- CP B (R183). -/
def execCp_B (s : State) : Outcome := aluReg .cp .b s

/-- CP C (R183). -/
def execCp_C (s : State) : Outcome := aluReg .cp .c s

/-- CP D (R183). -/
def execCp_D (s : State) : Outcome := aluReg .cp .d s

/-- CP E (R183). -/
def execCp_E (s : State) : Outcome := aluReg .cp .e s

/-- CP H (R183). -/
def execCp_H (s : State) : Outcome := aluReg .cp .h s

/-- CP L (R183). -/
def execCp_L (s : State) : Outcome := aluReg .cp .l s

/-- CP (HL) (R184). -/
def execCp_atHL (s : State) : Outcome := aluAtHL .cp s

/-- CP A (R183). -/
def execCp_A (s : State) : Outcome := aluReg .cp .a s

/-- ADD A,d8 (R164). -/
def execAdd_A_d8 (n : Byte) (s : State) : Outcome := aluImm .add n s

/-- ADC A,d8 (R167). -/
def execAdc_A_d8 (n : Byte) (s : State) : Outcome := aluImm .adc n s

/-- SUB d8 (R170). -/
def execSub_d8 (n : Byte) (s : State) : Outcome := aluImm .sub n s

/-- SBC A,d8 (R173). -/
def execSbc_A_d8 (n : Byte) (s : State) : Outcome := aluImm .sbc n s

/-- AND d8 (R176). -/
def execAnd_d8 (n : Byte) (s : State) : Outcome := aluImm .and n s

/-- XOR d8 (R179). -/
def execXor_d8 (n : Byte) (s : State) : Outcome := aluImm .xor n s

/-- OR d8 (R182). -/
def execOr_d8 (n : Byte) (s : State) : Outcome := aluImm .or n s

/-- CP d8 (R185). -/
def execCp_d8 (n : Byte) (s : State) : Outcome := aluImm .cp n s

end Sys2Proof.Machine
end

