-- ==== Sys2Proof/Machine/Control.lean ====
section
/-! DEFINITION. Jumps, calls, returns and restarts (43_control.md). None writes a flag. PC stands past the instruction's bytes (00_scope.md R11); each definition follows the rule of 43_control.md named beside it. -/

namespace Sys2Proof.Machine

/-! ## Shared operations -/

/-- `PC <- target` (R221, R223). -/
def jump (cost : Nat) (target : Word) (s : State) : Outcome := done cost (s.setPC target)

/-- JP cc,a16 (R222). -/
def jumpIf (cc : Cond) (a : Word) (s : State) : Outcome := if s.cond cc then jump 16 a s else done 12 s

/-- The target of a relative jump: PC, already past the offset byte, plus the signed offset (R224). -/
def relativeTarget (e : Byte) (s : State) : Word := s.regs.pc + sext8 e

/-- JR e8 (R224). -/
def jumpRelative (e : Byte) (s : State) : Outcome := jump 12 (relativeTarget e s) s

/-- JR cc,e8 (R225). -/
def jumpRelativeIf (cc : Cond) (e : Byte) (s : State) : Outcome :=
  if s.cond cc then jumpRelative e s else done 8 s

/-- `push16(PC); PC <- target` (R226, R231). -/
def call (cost : Nat) (target : Word) (s : State) : Outcome :=
  ((push16 s.regs.pc s).andThen fun _ s => .ok cost (s.setPC target)).finish

/-- CALL cc,a16 (R227). -/
def callIf (cc : Cond) (a : Word) (s : State) : Outcome := if s.cond cc then call 24 a s else done 12 s

/-- `PC <- pop16()` (R228). -/
def ret (cost : Nat) (s : State) : Outcome :=
  ((pop16 s).andThen fun v s => .ok cost (s.setPC v)).finish

/-- RET cc (R229). -/
def retIf (cc : Cond) (s : State) : Outcome := if s.cond cc then ret 20 s else done 8 s

/-- RETI (R230). -/
def retInterrupt (s : State) : Outcome := ((returnFromInterrupt s).andThen fun _ s => .ok 16 s).finish

/-! ## The instructions -/

/-- JR e8 (R224). -/
def execJr_e8 (e : Byte) (s : State) : Outcome := jumpRelative e s

/-- JR NZ,e8 (R225). -/
def execJr_NZ_e8 (e : Byte) (s : State) : Outcome := jumpRelativeIf .nz e s

/-- JR Z,e8 (R225). -/
def execJr_Z_e8 (e : Byte) (s : State) : Outcome := jumpRelativeIf .z e s

/-- JR NC,e8 (R225). -/
def execJr_NC_e8 (e : Byte) (s : State) : Outcome := jumpRelativeIf .nc e s

/-- JR C,e8 (R225). -/
def execJr_C_e8 (e : Byte) (s : State) : Outcome := jumpRelativeIf .c e s

/-- RET NZ (R229). -/
def execRet_NZ (s : State) : Outcome := retIf .nz s

/-- JP NZ,a16 (R222). -/
def execJp_NZ_a16 (a : Word) (s : State) : Outcome := jumpIf .nz a s

/-- JP a16 (R221). -/
def execJp_a16 (a : Word) (s : State) : Outcome := jump 16 a s

/-- CALL NZ,a16 (R227). -/
def execCall_NZ_a16 (a : Word) (s : State) : Outcome := callIf .nz a s

/-- RST 0x00 (R231). -/
def execRst_00 (s : State) : Outcome := call 16 0x0000 s

/-- RET Z (R229). -/
def execRet_Z (s : State) : Outcome := retIf .z s

/-- RET (R228). -/
def execRet (s : State) : Outcome := ret 16 s

/-- JP Z,a16 (R222). -/
def execJp_Z_a16 (a : Word) (s : State) : Outcome := jumpIf .z a s

/-- CALL Z,a16 (R227). -/
def execCall_Z_a16 (a : Word) (s : State) : Outcome := callIf .z a s

/-- CALL a16 (R226). -/
def execCall_a16 (a : Word) (s : State) : Outcome := call 24 a s

/-- RST 0x08 (R231). -/
def execRst_08 (s : State) : Outcome := call 16 0x0008 s

/-- RET NC (R229). -/
def execRet_NC (s : State) : Outcome := retIf .nc s

/-- JP NC,a16 (R222). -/
def execJp_NC_a16 (a : Word) (s : State) : Outcome := jumpIf .nc a s

/-- CALL NC,a16 (R227). -/
def execCall_NC_a16 (a : Word) (s : State) : Outcome := callIf .nc a s

/-- RST 0x10 (R231). -/
def execRst_10 (s : State) : Outcome := call 16 0x0010 s

/-- RET C (R229). -/
def execRet_C (s : State) : Outcome := retIf .c s

/-- RETI (R230). -/
def execReti (s : State) : Outcome := retInterrupt s

/-- JP C,a16 (R222). -/
def execJp_C_a16 (a : Word) (s : State) : Outcome := jumpIf .c a s

/-- CALL C,a16 (R227). -/
def execCall_C_a16 (a : Word) (s : State) : Outcome := callIf .c a s

/-- RST 0x18 (R231). -/
def execRst_18 (s : State) : Outcome := call 16 0x0018 s

/-- RST 0x20 (R231). -/
def execRst_20 (s : State) : Outcome := call 16 0x0020 s

/-- JP (HL) (R223). -/
def execJp_atHL (s : State) : Outcome := jump 4 s.hl s

/-- RST 0x28 (R231). -/
def execRst_28 (s : State) : Outcome := call 16 0x0028 s

/-- RST 0x30 (R231). -/
def execRst_30 (s : State) : Outcome := call 16 0x0030 s

/-- RST 0x38 (R231). -/
def execRst_38 (s : State) : Outcome := call 16 0x0038 s

end Sys2Proof.Machine
end

