-- ==== Sys2Proof/Machine/Load.lean ====
section
/-! DEFINITION. Loads, stores and the stack instructions (40_load.md). None writes a flag but POP AF. PC stands past the instruction's bytes (00_scope.md R11); each definition follows the rule of 40_load.md named beside it. -/

namespace Sys2Proof.Machine

/-! ## Shared operations -/

/-- `0xFF00 + n` (30_encoding.md R112). -/
def highPage (n : Byte) : Word := wordOf 0xFF n

/-- LD r,r' (R122). -/
def ldRegReg (dst r : Reg8) (s : State) : Outcome := done 4 (s.setReg8 dst (s.reg8 r))

/-- LD r,d8 (R123). -/
def ldRegImm (dst : Reg8) (n : Byte) (s : State) : Outcome := done 8 (s.setReg8 dst n)

/-- LD r,(HL) (R124): the address is formed before the register is written. -/
def ldRegAtHL (dst : Reg8) (s : State) : Outcome :=
  ((read8 s.hl s).andThen fun v s => .ok 8 (s.setReg8 dst v)).finish

/-- LD (HL),r (R125). -/
def ldAtHLReg (r : Reg8) (s : State) : Outcome :=
  ((write8 s.hl (s.reg8 r) s).andThen fun _ s => .ok 8 s).finish

/-- LD (HL),d8 (R126). -/
def ldAtHLImm (n : Byte) (s : State) : Outcome :=
  ((write8 s.hl n s).andThen fun _ s => .ok 12 s).finish

/-- `A <- MemRead(addr, 1)` (R127, R128, R131, R133, R135). -/
def loadA (cost : Nat) (addr : Word) (s : State) : Outcome :=
  ((read8 addr s).andThen fun v s => .ok cost (s.setReg8 .a v)).finish

/-- `MemWrite(addr, 1, A)` (R129, R130, R132, R134, R136). -/
def storeA (cost : Nat) (addr : Word) (s : State) : Outcome :=
  ((write8 addr s.regs.a s).andThen fun _ s => .ok cost s).finish

/-- `MemWrite(HL, 1, A); HL <- HL + step` (R137, R138). -/
def storeAStepHL (step : Word) (s : State) : Outcome :=
  ((write8 s.hl s.regs.a s).andThen fun _ s => .ok 8 (s.setHL (s.hl + step))).finish

/-- `A <- MemRead(HL, 1); HL <- HL + step` (R139, R140). -/
def loadAStepHL (step : Word) (s : State) : Outcome :=
  ((read8 s.hl s).andThen fun v s => .ok 8 ((s.setReg8 .a v).setHL (s.hl + step))).finish

/-- LD rr,d16 (R141). -/
def ldPairImm (p : Pair) (v : Word) (s : State) : Outcome := done 12 (s.setPair p v)

/-- LD (a16),SP (R142). -/
def ldAtA16SP (a : Word) (s : State) : Outcome :=
  ((write16 a s.regs.sp s).andThen fun _ s => .ok 20 s).finish

/-- LD SP,HL (R143). -/
def ldSPHL (s : State) : Outcome := done 8 (s.setPair .sp s.hl)

/-- PUSH (R144, R145). -/
def pushPair (q : StackPair) (s : State) : Outcome :=
  ((push16 (s.stackPair q) s).andThen fun _ s => .ok 16 s).finish

/-- POP (R146, R147). -/
def popPair (q : StackPair) (s : State) : Outcome :=
  ((pop16 s).andThen fun v s => .ok 12 (s.setStackPair q v)).finish

/-! ## The instructions -/

/-- LD BC,d16 (R141). -/
def execLd_BC_d16 (v : Word) (s : State) : Outcome := ldPairImm .bc v s

/-- LD (BC),A (R129). -/
def execLd_atBC_A (s : State) : Outcome := storeA 8 s.bc s

/-- LD B,d8 (R123). -/
def execLd_B_d8 (n : Byte) (s : State) : Outcome := ldRegImm .b n s

/-- LD (a16),SP (R142). -/
def execLd_atA16_SP (a : Word) (s : State) : Outcome := ldAtA16SP a s

/-- LD A,(BC) (R127). -/
def execLd_A_atBC (s : State) : Outcome := loadA 8 s.bc s

/-- LD C,d8 (R123). -/
def execLd_C_d8 (n : Byte) (s : State) : Outcome := ldRegImm .c n s

/-- LD DE,d16 (R141). -/
def execLd_DE_d16 (v : Word) (s : State) : Outcome := ldPairImm .de v s

/-- LD (DE),A (R130). -/
def execLd_atDE_A (s : State) : Outcome := storeA 8 s.de s

/-- LD D,d8 (R123). -/
def execLd_D_d8 (n : Byte) (s : State) : Outcome := ldRegImm .d n s

/-- LD A,(DE) (R128). -/
def execLd_A_atDE (s : State) : Outcome := loadA 8 s.de s

/-- LD E,d8 (R123). -/
def execLd_E_d8 (n : Byte) (s : State) : Outcome := ldRegImm .e n s

/-- LD HL,d16 (R141). -/
def execLd_HL_d16 (v : Word) (s : State) : Outcome := ldPairImm .hl v s

/-- LD (HL+),A (R137). -/
def execLd_atHLInc_A (s : State) : Outcome := storeAStepHL 1 s

/-- LD H,d8 (R123). -/
def execLd_H_d8 (n : Byte) (s : State) : Outcome := ldRegImm .h n s

/-- LD A,(HL+) (R139). -/
def execLd_A_atHLInc (s : State) : Outcome := loadAStepHL 1 s

/-- LD L,d8 (R123). -/
def execLd_L_d8 (n : Byte) (s : State) : Outcome := ldRegImm .l n s

/-- LD SP,d16 (R141). -/
def execLd_SP_d16 (v : Word) (s : State) : Outcome := ldPairImm .sp v s

/-- LD (HL-),A (R138). -/
def execLd_atHLDec_A (s : State) : Outcome := storeAStepHL (-1) s

/-- LD (HL),d8 (R126). -/
def execLd_atHL_d8 (n : Byte) (s : State) : Outcome := ldAtHLImm n s

/-- LD A,(HL-) (R140). -/
def execLd_A_atHLDec (s : State) : Outcome := loadAStepHL (-1) s

/-- LD A,d8 (R123). -/
def execLd_A_d8 (n : Byte) (s : State) : Outcome := ldRegImm .a n s

/-- LD B,B (R122). -/
def execLd_B_B (s : State) : Outcome := ldRegReg .b .b s

/-- LD B,C (R122). -/
def execLd_B_C (s : State) : Outcome := ldRegReg .b .c s

/-- LD B,D (R122). -/
def execLd_B_D (s : State) : Outcome := ldRegReg .b .d s

/-- LD B,E (R122). -/
def execLd_B_E (s : State) : Outcome := ldRegReg .b .e s

/-- LD B,H (R122). -/
def execLd_B_H (s : State) : Outcome := ldRegReg .b .h s

/-- LD B,L (R122). -/
def execLd_B_L (s : State) : Outcome := ldRegReg .b .l s

/-- LD B,(HL) (R124). -/
def execLd_B_atHL (s : State) : Outcome := ldRegAtHL .b s

/-- LD B,A (R122). -/
def execLd_B_A (s : State) : Outcome := ldRegReg .b .a s

/-- LD C,B (R122). -/
def execLd_C_B (s : State) : Outcome := ldRegReg .c .b s

/-- LD C,C (R122). -/
def execLd_C_C (s : State) : Outcome := ldRegReg .c .c s

/-- LD C,D (R122). -/
def execLd_C_D (s : State) : Outcome := ldRegReg .c .d s

/-- LD C,E (R122). -/
def execLd_C_E (s : State) : Outcome := ldRegReg .c .e s

/-- LD C,H (R122). -/
def execLd_C_H (s : State) : Outcome := ldRegReg .c .h s

/-- LD C,L (R122). -/
def execLd_C_L (s : State) : Outcome := ldRegReg .c .l s

/-- LD C,(HL) (R124). -/
def execLd_C_atHL (s : State) : Outcome := ldRegAtHL .c s

/-- LD C,A (R122). -/
def execLd_C_A (s : State) : Outcome := ldRegReg .c .a s

/-- LD D,B (R122). -/
def execLd_D_B (s : State) : Outcome := ldRegReg .d .b s

/-- LD D,C (R122). -/
def execLd_D_C (s : State) : Outcome := ldRegReg .d .c s

/-- LD D,D (R122). -/
def execLd_D_D (s : State) : Outcome := ldRegReg .d .d s

/-- LD D,E (R122). -/
def execLd_D_E (s : State) : Outcome := ldRegReg .d .e s

/-- LD D,H (R122). -/
def execLd_D_H (s : State) : Outcome := ldRegReg .d .h s

/-- LD D,L (R122). -/
def execLd_D_L (s : State) : Outcome := ldRegReg .d .l s

/-- LD D,(HL) (R124). -/
def execLd_D_atHL (s : State) : Outcome := ldRegAtHL .d s

/-- LD D,A (R122). -/
def execLd_D_A (s : State) : Outcome := ldRegReg .d .a s

/-- LD E,B (R122). -/
def execLd_E_B (s : State) : Outcome := ldRegReg .e .b s

/-- LD E,C (R122). -/
def execLd_E_C (s : State) : Outcome := ldRegReg .e .c s

/-- LD E,D (R122). -/
def execLd_E_D (s : State) : Outcome := ldRegReg .e .d s

/-- LD E,E (R122). -/
def execLd_E_E (s : State) : Outcome := ldRegReg .e .e s

/-- LD E,H (R122). -/
def execLd_E_H (s : State) : Outcome := ldRegReg .e .h s

/-- LD E,L (R122). -/
def execLd_E_L (s : State) : Outcome := ldRegReg .e .l s

/-- LD E,(HL) (R124). -/
def execLd_E_atHL (s : State) : Outcome := ldRegAtHL .e s

/-- LD E,A (R122). -/
def execLd_E_A (s : State) : Outcome := ldRegReg .e .a s

/-- LD H,B (R122). -/
def execLd_H_B (s : State) : Outcome := ldRegReg .h .b s

/-- LD H,C (R122). -/
def execLd_H_C (s : State) : Outcome := ldRegReg .h .c s

/-- LD H,D (R122). -/
def execLd_H_D (s : State) : Outcome := ldRegReg .h .d s

/-- LD H,E (R122). -/
def execLd_H_E (s : State) : Outcome := ldRegReg .h .e s

/-- LD H,H (R122). -/
def execLd_H_H (s : State) : Outcome := ldRegReg .h .h s

/-- LD H,L (R122). -/
def execLd_H_L (s : State) : Outcome := ldRegReg .h .l s

/-- LD H,(HL) (R124). -/
def execLd_H_atHL (s : State) : Outcome := ldRegAtHL .h s

/-- LD H,A (R122). -/
def execLd_H_A (s : State) : Outcome := ldRegReg .h .a s

/-- LD L,B (R122). -/
def execLd_L_B (s : State) : Outcome := ldRegReg .l .b s

/-- LD L,C (R122). -/
def execLd_L_C (s : State) : Outcome := ldRegReg .l .c s

/-- LD L,D (R122). -/
def execLd_L_D (s : State) : Outcome := ldRegReg .l .d s

/-- LD L,E (R122). -/
def execLd_L_E (s : State) : Outcome := ldRegReg .l .e s

/-- LD L,H (R122). -/
def execLd_L_H (s : State) : Outcome := ldRegReg .l .h s

/-- LD L,L (R122). -/
def execLd_L_L (s : State) : Outcome := ldRegReg .l .l s

/-- LD L,(HL) (R124). -/
def execLd_L_atHL (s : State) : Outcome := ldRegAtHL .l s

/-- LD L,A (R122). -/
def execLd_L_A (s : State) : Outcome := ldRegReg .l .a s

/-- LD (HL),B (R125). -/
def execLd_atHL_B (s : State) : Outcome := ldAtHLReg .b s

/-- LD (HL),C (R125). -/
def execLd_atHL_C (s : State) : Outcome := ldAtHLReg .c s

/-- LD (HL),D (R125). -/
def execLd_atHL_D (s : State) : Outcome := ldAtHLReg .d s

/-- LD (HL),E (R125). -/
def execLd_atHL_E (s : State) : Outcome := ldAtHLReg .e s

/-- LD (HL),H (R125). -/
def execLd_atHL_H (s : State) : Outcome := ldAtHLReg .h s

/-- LD (HL),L (R125). -/
def execLd_atHL_L (s : State) : Outcome := ldAtHLReg .l s

/-- LD (HL),A (R125). -/
def execLd_atHL_A (s : State) : Outcome := ldAtHLReg .a s

/-- LD A,B (R122). -/
def execLd_A_B (s : State) : Outcome := ldRegReg .a .b s

/-- LD A,C (R122). -/
def execLd_A_C (s : State) : Outcome := ldRegReg .a .c s

/-- LD A,D (R122). -/
def execLd_A_D (s : State) : Outcome := ldRegReg .a .d s

/-- LD A,E (R122). -/
def execLd_A_E (s : State) : Outcome := ldRegReg .a .e s

/-- LD A,H (R122). -/
def execLd_A_H (s : State) : Outcome := ldRegReg .a .h s

/-- LD A,L (R122). -/
def execLd_A_L (s : State) : Outcome := ldRegReg .a .l s

/-- LD A,(HL) (R124). -/
def execLd_A_atHL (s : State) : Outcome := ldRegAtHL .a s

/-- LD A,A (R122). -/
def execLd_A_A (s : State) : Outcome := ldRegReg .a .a s

/-- POP BC (R146). -/
def execPop_BC (s : State) : Outcome := popPair .bc s

/-- PUSH BC (R144). -/
def execPush_BC (s : State) : Outcome := pushPair .bc s

/-- POP DE (R146). -/
def execPop_DE (s : State) : Outcome := popPair .de s

/-- PUSH DE (R144). -/
def execPush_DE (s : State) : Outcome := pushPair .de s

/-- LDH (a8),A (R134). -/
def execLdh_atA8_A (n : Byte) (s : State) : Outcome := storeA 12 (highPage n) s

/-- POP HL (R146). -/
def execPop_HL (s : State) : Outcome := popPair .hl s

/-- LD (C),A (R136). -/
def execLd_atC_A (s : State) : Outcome := storeA 8 (highPage s.regs.c) s

/-- PUSH HL (R144). -/
def execPush_HL (s : State) : Outcome := pushPair .hl s

/-- LD (a16),A (R132). -/
def execLd_atA16_A (a : Word) (s : State) : Outcome := storeA 16 a s

/-- LDH A,(a8) (R133). -/
def execLdh_A_atA8 (n : Byte) (s : State) : Outcome := loadA 12 (highPage n) s

/-- POP AF (R147). -/
def execPop_AF (s : State) : Outcome := popPair .af s

/-- LD A,(C) (R135). -/
def execLd_A_atC (s : State) : Outcome := loadA 8 (highPage s.regs.c) s

/-- PUSH AF (R145). -/
def execPush_AF (s : State) : Outcome := pushPair .af s

/-- LD SP,HL (R143). -/
def execLd_SP_HL (s : State) : Outcome := ldSPHL s

/-- LD A,(a16) (R131). -/
def execLd_A_atA16 (a : Word) (s : State) : Outcome := loadA 16 a s

end Sys2Proof.Machine
end

