-- ==== Sys2Proof/Machine/Cb.lean ====
section
/-! DEFINITION. The extended table (45_cb_bitops.md). Costs include the prefix byte. PC stands past the instruction's bytes (00_scope.md R11); each definition follows the rule of 45_cb_bitops.md named beside it. -/

namespace Sys2Proof.Machine

/-! ## Shared operations -/

/-- A rotate, shift or swap of a register (R251, R253, R255, R257, R259, R261, R263, R265). -/
def rotReg (o : RotOp) (r : Reg8) (s : State) : Outcome :=
  let x := rotResult o (s.reg8 r) s.flagC
  done 8 ((s.setReg8 r x.1).writeF (rotF x))

/-- A rotate, shift or swap of (HL): read, write, then the flags (R252, R254, R256, R258, R260, R262, R264, R266). -/
def rotAtHL (o : RotOp) (s : State) : Outcome :=
  ((read8 s.hl s).andThen fun v s =>
    (write8 s.hl (rotResult o v s.flagC).1 s).andThen fun _ s =>
      .ok 16 (s.writeF (rotF (rotResult o v s.flagC)))).finish

/-- BIT's flags for the operand `v`: Z 0 1 and C as it stands (R267, R268). -/
def testBit (b : Fin 8) (v : Byte) (s : State) : State := s.writeFlags (!v.getLsbD b.val) false true s.flagC

/-- BIT b,r (R267). -/
def bitReg (b : Fin 8) (r : Reg8) (s : State) : Outcome := done 8 (testBit b (s.reg8 r) s)

/-- BIT b,(HL) (R268): no write. -/
def bitAtHL (b : Fin 8) (s : State) : Outcome :=
  ((read8 s.hl s).andThen fun v s => .ok 12 (testBit b v s)).finish

/-- `v & ~(1 << b)` (R269). -/
def clearBit (b : Fin 8) (v : Byte) : Byte := v &&& ~~~((1 : Byte) <<< b.val)

/-- `v | (1 << b)` (R271). -/
def raiseBit (b : Fin 8) (v : Byte) : Byte := v ||| ((1 : Byte) <<< b.val)

/-- RES b,r (R269). -/
def resReg (b : Fin 8) (r : Reg8) (s : State) : Outcome := done 8 (s.setReg8 r (clearBit b (s.reg8 r)))

/-- RES b,(HL) (R270). -/
def resAtHL (b : Fin 8) (s : State) : Outcome :=
  ((read8 s.hl s).andThen fun v s => (write8 s.hl (clearBit b v) s).andThen fun _ s => .ok 16 s).finish

/-- SET b,r (R271). -/
def setReg (b : Fin 8) (r : Reg8) (s : State) : Outcome := done 8 (s.setReg8 r (raiseBit b (s.reg8 r)))

/-- SET b,(HL) (R272). -/
def setAtHL (b : Fin 8) (s : State) : Outcome :=
  ((read8 s.hl s).andThen fun v s => (write8 s.hl (raiseBit b v) s).andThen fun _ s => .ok 16 s).finish

/-- `execute_cb(x)` by the fields `gg bbb rrr` of the extended byte (R250; 44_system.md R246). -/
def executeCb (x : Byte) (s : State) : Outcome :=
  let b : Fin 8 := Fin.ofNat 8 (x.toNat / 8)
  match x.toNat / 64, operand8OfField (x.toNat % 8) with
  | 0, .reg r => rotReg (rotOfField b.val) r s
  | 0, .atHL => rotAtHL (rotOfField b.val) s
  | 1, .reg r => bitReg b r s
  | 1, .atHL => bitAtHL b s
  | 2, .reg r => resReg b r s
  | 2, .atHL => resAtHL b s
  | _, .reg r => setReg b r s
  | _, .atHL => setAtHL b s

/-! ## The instructions -/

/-- RLC B (R251). -/
def execRlc_B (s : State) : Outcome := rotReg .rlc .b s

/-- RLC C (R251). -/
def execRlc_C (s : State) : Outcome := rotReg .rlc .c s

/-- RLC D (R251). -/
def execRlc_D (s : State) : Outcome := rotReg .rlc .d s

/-- RLC E (R251). -/
def execRlc_E (s : State) : Outcome := rotReg .rlc .e s

/-- RLC H (R251). -/
def execRlc_H (s : State) : Outcome := rotReg .rlc .h s

/-- RLC L (R251). -/
def execRlc_L (s : State) : Outcome := rotReg .rlc .l s

/-- RLC (HL) (R252). -/
def execRlc_atHL (s : State) : Outcome := rotAtHL .rlc s

/-- RLC A (R251). -/
def execRlc_A (s : State) : Outcome := rotReg .rlc .a s

/-- RRC B (R253). -/
def execRrc_B (s : State) : Outcome := rotReg .rrc .b s

/-- RRC C (R253). -/
def execRrc_C (s : State) : Outcome := rotReg .rrc .c s

/-- RRC D (R253). -/
def execRrc_D (s : State) : Outcome := rotReg .rrc .d s

/-- RRC E (R253). -/
def execRrc_E (s : State) : Outcome := rotReg .rrc .e s

/-- RRC H (R253). -/
def execRrc_H (s : State) : Outcome := rotReg .rrc .h s

/-- RRC L (R253). -/
def execRrc_L (s : State) : Outcome := rotReg .rrc .l s

/-- RRC (HL) (R254). -/
def execRrc_atHL (s : State) : Outcome := rotAtHL .rrc s

/-- RRC A (R253). -/
def execRrc_A (s : State) : Outcome := rotReg .rrc .a s

/-- RL B (R255). -/
def execRl_B (s : State) : Outcome := rotReg .rl .b s

/-- RL C (R255). -/
def execRl_C (s : State) : Outcome := rotReg .rl .c s

/-- RL D (R255). -/
def execRl_D (s : State) : Outcome := rotReg .rl .d s

/-- RL E (R255). -/
def execRl_E (s : State) : Outcome := rotReg .rl .e s

/-- RL H (R255). -/
def execRl_H (s : State) : Outcome := rotReg .rl .h s

/-- RL L (R255). -/
def execRl_L (s : State) : Outcome := rotReg .rl .l s

/-- RL (HL) (R256). -/
def execRl_atHL (s : State) : Outcome := rotAtHL .rl s

/-- RL A (R255). -/
def execRl_A (s : State) : Outcome := rotReg .rl .a s

/-- RR B (R257). -/
def execRr_B (s : State) : Outcome := rotReg .rr .b s

/-- RR C (R257). -/
def execRr_C (s : State) : Outcome := rotReg .rr .c s

/-- RR D (R257). -/
def execRr_D (s : State) : Outcome := rotReg .rr .d s

/-- RR E (R257). -/
def execRr_E (s : State) : Outcome := rotReg .rr .e s

/-- RR H (R257). -/
def execRr_H (s : State) : Outcome := rotReg .rr .h s

/-- RR L (R257). -/
def execRr_L (s : State) : Outcome := rotReg .rr .l s

/-- RR (HL) (R258). -/
def execRr_atHL (s : State) : Outcome := rotAtHL .rr s

/-- RR A (R257). -/
def execRr_A (s : State) : Outcome := rotReg .rr .a s

/-- SLA B (R259). -/
def execSla_B (s : State) : Outcome := rotReg .sla .b s

/-- SLA C (R259). -/
def execSla_C (s : State) : Outcome := rotReg .sla .c s

/-- SLA D (R259). -/
def execSla_D (s : State) : Outcome := rotReg .sla .d s

/-- SLA E (R259). -/
def execSla_E (s : State) : Outcome := rotReg .sla .e s

/-- SLA H (R259). -/
def execSla_H (s : State) : Outcome := rotReg .sla .h s

/-- SLA L (R259). -/
def execSla_L (s : State) : Outcome := rotReg .sla .l s

/-- SLA (HL) (R260). -/
def execSla_atHL (s : State) : Outcome := rotAtHL .sla s

/-- SLA A (R259). -/
def execSla_A (s : State) : Outcome := rotReg .sla .a s

/-- SRA B (R261). -/
def execSra_B (s : State) : Outcome := rotReg .sra .b s

/-- SRA C (R261). -/
def execSra_C (s : State) : Outcome := rotReg .sra .c s

/-- SRA D (R261). -/
def execSra_D (s : State) : Outcome := rotReg .sra .d s

/-- SRA E (R261). -/
def execSra_E (s : State) : Outcome := rotReg .sra .e s

/-- SRA H (R261). -/
def execSra_H (s : State) : Outcome := rotReg .sra .h s

/-- SRA L (R261). -/
def execSra_L (s : State) : Outcome := rotReg .sra .l s

/-- SRA (HL) (R262). -/
def execSra_atHL (s : State) : Outcome := rotAtHL .sra s

/-- SRA A (R261). -/
def execSra_A (s : State) : Outcome := rotReg .sra .a s

/-- SWAP B (R263). -/
def execSwap_B (s : State) : Outcome := rotReg .swap .b s

/-- SWAP C (R263). -/
def execSwap_C (s : State) : Outcome := rotReg .swap .c s

/-- SWAP D (R263). -/
def execSwap_D (s : State) : Outcome := rotReg .swap .d s

/-- SWAP E (R263). -/
def execSwap_E (s : State) : Outcome := rotReg .swap .e s

/-- SWAP H (R263). -/
def execSwap_H (s : State) : Outcome := rotReg .swap .h s

/-- SWAP L (R263). -/
def execSwap_L (s : State) : Outcome := rotReg .swap .l s

/-- SWAP (HL) (R264). -/
def execSwap_atHL (s : State) : Outcome := rotAtHL .swap s

/-- SWAP A (R263). -/
def execSwap_A (s : State) : Outcome := rotReg .swap .a s

/-- SRL B (R265). -/
def execSrl_B (s : State) : Outcome := rotReg .srl .b s

/-- SRL C (R265). -/
def execSrl_C (s : State) : Outcome := rotReg .srl .c s

/-- SRL D (R265). -/
def execSrl_D (s : State) : Outcome := rotReg .srl .d s

/-- SRL E (R265). -/
def execSrl_E (s : State) : Outcome := rotReg .srl .e s

/-- SRL H (R265). -/
def execSrl_H (s : State) : Outcome := rotReg .srl .h s

/-- SRL L (R265). -/
def execSrl_L (s : State) : Outcome := rotReg .srl .l s

/-- SRL (HL) (R266). -/
def execSrl_atHL (s : State) : Outcome := rotAtHL .srl s

/-- SRL A (R265). -/
def execSrl_A (s : State) : Outcome := rotReg .srl .a s

/-- BIT 0,B (R267). -/
def execBit_0_B (s : State) : Outcome := bitReg 0 .b s

/-- BIT 0,C (R267). -/
def execBit_0_C (s : State) : Outcome := bitReg 0 .c s

/-- BIT 0,D (R267). -/
def execBit_0_D (s : State) : Outcome := bitReg 0 .d s

/-- BIT 0,E (R267). -/
def execBit_0_E (s : State) : Outcome := bitReg 0 .e s

/-- BIT 0,H (R267). -/
def execBit_0_H (s : State) : Outcome := bitReg 0 .h s

/-- BIT 0,L (R267). -/
def execBit_0_L (s : State) : Outcome := bitReg 0 .l s

/-- BIT 0,(HL) (R268). -/
def execBit_0_atHL (s : State) : Outcome := bitAtHL 0 s

/-- BIT 0,A (R267). -/
def execBit_0_A (s : State) : Outcome := bitReg 0 .a s

/-- BIT 1,B (R267). -/
def execBit_1_B (s : State) : Outcome := bitReg 1 .b s

/-- BIT 1,C (R267). -/
def execBit_1_C (s : State) : Outcome := bitReg 1 .c s

/-- BIT 1,D (R267). -/
def execBit_1_D (s : State) : Outcome := bitReg 1 .d s

/-- BIT 1,E (R267). -/
def execBit_1_E (s : State) : Outcome := bitReg 1 .e s

/-- BIT 1,H (R267). -/
def execBit_1_H (s : State) : Outcome := bitReg 1 .h s

/-- BIT 1,L (R267). -/
def execBit_1_L (s : State) : Outcome := bitReg 1 .l s

/-- BIT 1,(HL) (R268). -/
def execBit_1_atHL (s : State) : Outcome := bitAtHL 1 s

/-- BIT 1,A (R267). -/
def execBit_1_A (s : State) : Outcome := bitReg 1 .a s

/-- BIT 2,B (R267). -/
def execBit_2_B (s : State) : Outcome := bitReg 2 .b s

/-- BIT 2,C (R267). -/
def execBit_2_C (s : State) : Outcome := bitReg 2 .c s

/-- BIT 2,D (R267). -/
def execBit_2_D (s : State) : Outcome := bitReg 2 .d s

/-- BIT 2,E (R267). -/
def execBit_2_E (s : State) : Outcome := bitReg 2 .e s

/-- BIT 2,H (R267). -/
def execBit_2_H (s : State) : Outcome := bitReg 2 .h s

/-- BIT 2,L (R267). -/
def execBit_2_L (s : State) : Outcome := bitReg 2 .l s

/-- BIT 2,(HL) (R268). -/
def execBit_2_atHL (s : State) : Outcome := bitAtHL 2 s

/-- BIT 2,A (R267). -/
def execBit_2_A (s : State) : Outcome := bitReg 2 .a s

/-- BIT 3,B (R267). -/
def execBit_3_B (s : State) : Outcome := bitReg 3 .b s

/-- BIT 3,C (R267). -/
def execBit_3_C (s : State) : Outcome := bitReg 3 .c s

/-- BIT 3,D (R267). -/
def execBit_3_D (s : State) : Outcome := bitReg 3 .d s

/-- BIT 3,E (R267). -/
def execBit_3_E (s : State) : Outcome := bitReg 3 .e s

/-- BIT 3,H (R267). -/
def execBit_3_H (s : State) : Outcome := bitReg 3 .h s

/-- BIT 3,L (R267). -/
def execBit_3_L (s : State) : Outcome := bitReg 3 .l s

/-- BIT 3,(HL) (R268). -/
def execBit_3_atHL (s : State) : Outcome := bitAtHL 3 s

/-- BIT 3,A (R267). -/
def execBit_3_A (s : State) : Outcome := bitReg 3 .a s

/-- BIT 4,B (R267). -/
def execBit_4_B (s : State) : Outcome := bitReg 4 .b s

/-- BIT 4,C (R267). -/
def execBit_4_C (s : State) : Outcome := bitReg 4 .c s

/-- BIT 4,D (R267). -/
def execBit_4_D (s : State) : Outcome := bitReg 4 .d s

/-- BIT 4,E (R267). -/
def execBit_4_E (s : State) : Outcome := bitReg 4 .e s

/-- BIT 4,H (R267). -/
def execBit_4_H (s : State) : Outcome := bitReg 4 .h s

/-- BIT 4,L (R267). -/
def execBit_4_L (s : State) : Outcome := bitReg 4 .l s

/-- BIT 4,(HL) (R268). -/
def execBit_4_atHL (s : State) : Outcome := bitAtHL 4 s

/-- BIT 4,A (R267). -/
def execBit_4_A (s : State) : Outcome := bitReg 4 .a s

/-- BIT 5,B (R267). -/
def execBit_5_B (s : State) : Outcome := bitReg 5 .b s

/-- BIT 5,C (R267). -/
def execBit_5_C (s : State) : Outcome := bitReg 5 .c s

/-- BIT 5,D (R267). -/
def execBit_5_D (s : State) : Outcome := bitReg 5 .d s

/-- BIT 5,E (R267). -/
def execBit_5_E (s : State) : Outcome := bitReg 5 .e s

/-- BIT 5,H (R267). -/
def execBit_5_H (s : State) : Outcome := bitReg 5 .h s

/-- BIT 5,L (R267). -/
def execBit_5_L (s : State) : Outcome := bitReg 5 .l s

/-- BIT 5,(HL) (R268). -/
def execBit_5_atHL (s : State) : Outcome := bitAtHL 5 s

/-- BIT 5,A (R267). -/
def execBit_5_A (s : State) : Outcome := bitReg 5 .a s

/-- BIT 6,B (R267). -/
def execBit_6_B (s : State) : Outcome := bitReg 6 .b s

/-- BIT 6,C (R267). -/
def execBit_6_C (s : State) : Outcome := bitReg 6 .c s

/-- BIT 6,D (R267). -/
def execBit_6_D (s : State) : Outcome := bitReg 6 .d s

/-- BIT 6,E (R267). -/
def execBit_6_E (s : State) : Outcome := bitReg 6 .e s

/-- BIT 6,H (R267). -/
def execBit_6_H (s : State) : Outcome := bitReg 6 .h s

/-- BIT 6,L (R267). -/
def execBit_6_L (s : State) : Outcome := bitReg 6 .l s

/-- BIT 6,(HL) (R268). -/
def execBit_6_atHL (s : State) : Outcome := bitAtHL 6 s

/-- BIT 6,A (R267). -/
def execBit_6_A (s : State) : Outcome := bitReg 6 .a s

/-- BIT 7,B (R267). -/
def execBit_7_B (s : State) : Outcome := bitReg 7 .b s

/-- BIT 7,C (R267). -/
def execBit_7_C (s : State) : Outcome := bitReg 7 .c s

/-- BIT 7,D (R267). -/
def execBit_7_D (s : State) : Outcome := bitReg 7 .d s

/-- BIT 7,E (R267). -/
def execBit_7_E (s : State) : Outcome := bitReg 7 .e s

/-- BIT 7,H (R267). -/
def execBit_7_H (s : State) : Outcome := bitReg 7 .h s

/-- BIT 7,L (R267). -/
def execBit_7_L (s : State) : Outcome := bitReg 7 .l s

/-- BIT 7,(HL) (R268). -/
def execBit_7_atHL (s : State) : Outcome := bitAtHL 7 s

/-- BIT 7,A (R267). -/
def execBit_7_A (s : State) : Outcome := bitReg 7 .a s

/-- RES 0,B (R269). -/
def execRes_0_B (s : State) : Outcome := resReg 0 .b s

/-- RES 0,C (R269). -/
def execRes_0_C (s : State) : Outcome := resReg 0 .c s

/-- RES 0,D (R269). -/
def execRes_0_D (s : State) : Outcome := resReg 0 .d s

/-- RES 0,E (R269). -/
def execRes_0_E (s : State) : Outcome := resReg 0 .e s

/-- RES 0,H (R269). -/
def execRes_0_H (s : State) : Outcome := resReg 0 .h s

/-- RES 0,L (R269). -/
def execRes_0_L (s : State) : Outcome := resReg 0 .l s

/-- RES 0,(HL) (R270). -/
def execRes_0_atHL (s : State) : Outcome := resAtHL 0 s

/-- RES 0,A (R269). -/
def execRes_0_A (s : State) : Outcome := resReg 0 .a s

/-- RES 1,B (R269). -/
def execRes_1_B (s : State) : Outcome := resReg 1 .b s

/-- RES 1,C (R269). -/
def execRes_1_C (s : State) : Outcome := resReg 1 .c s

/-- RES 1,D (R269). -/
def execRes_1_D (s : State) : Outcome := resReg 1 .d s

/-- RES 1,E (R269). -/
def execRes_1_E (s : State) : Outcome := resReg 1 .e s

/-- RES 1,H (R269). -/
def execRes_1_H (s : State) : Outcome := resReg 1 .h s

/-- RES 1,L (R269). -/
def execRes_1_L (s : State) : Outcome := resReg 1 .l s

/-- RES 1,(HL) (R270). -/
def execRes_1_atHL (s : State) : Outcome := resAtHL 1 s

/-- RES 1,A (R269). -/
def execRes_1_A (s : State) : Outcome := resReg 1 .a s

/-- RES 2,B (R269). -/
def execRes_2_B (s : State) : Outcome := resReg 2 .b s

/-- RES 2,C (R269). -/
def execRes_2_C (s : State) : Outcome := resReg 2 .c s

/-- RES 2,D (R269). -/
def execRes_2_D (s : State) : Outcome := resReg 2 .d s

/-- RES 2,E (R269). -/
def execRes_2_E (s : State) : Outcome := resReg 2 .e s

/-- RES 2,H (R269). -/
def execRes_2_H (s : State) : Outcome := resReg 2 .h s

/-- RES 2,L (R269). -/
def execRes_2_L (s : State) : Outcome := resReg 2 .l s

/-- RES 2,(HL) (R270). -/
def execRes_2_atHL (s : State) : Outcome := resAtHL 2 s

/-- RES 2,A (R269). -/
def execRes_2_A (s : State) : Outcome := resReg 2 .a s

/-- RES 3,B (R269). -/
def execRes_3_B (s : State) : Outcome := resReg 3 .b s

/-- RES 3,C (R269). -/
def execRes_3_C (s : State) : Outcome := resReg 3 .c s

/-- RES 3,D (R269). -/
def execRes_3_D (s : State) : Outcome := resReg 3 .d s

/-- RES 3,E (R269). -/
def execRes_3_E (s : State) : Outcome := resReg 3 .e s

/-- RES 3,H (R269). -/
def execRes_3_H (s : State) : Outcome := resReg 3 .h s

/-- RES 3,L (R269). -/
def execRes_3_L (s : State) : Outcome := resReg 3 .l s

/-- RES 3,(HL) (R270). -/
def execRes_3_atHL (s : State) : Outcome := resAtHL 3 s

/-- RES 3,A (R269). -/
def execRes_3_A (s : State) : Outcome := resReg 3 .a s

/-- RES 4,B (R269). -/
def execRes_4_B (s : State) : Outcome := resReg 4 .b s

/-- RES 4,C (R269). -/
def execRes_4_C (s : State) : Outcome := resReg 4 .c s

/-- RES 4,D (R269). -/
def execRes_4_D (s : State) : Outcome := resReg 4 .d s

/-- RES 4,E (R269). -/
def execRes_4_E (s : State) : Outcome := resReg 4 .e s

/-- RES 4,H (R269). -/
def execRes_4_H (s : State) : Outcome := resReg 4 .h s

/-- RES 4,L (R269). -/
def execRes_4_L (s : State) : Outcome := resReg 4 .l s

/-- RES 4,(HL) (R270). -/
def execRes_4_atHL (s : State) : Outcome := resAtHL 4 s

/-- RES 4,A (R269). -/
def execRes_4_A (s : State) : Outcome := resReg 4 .a s

/-- RES 5,B (R269). -/
def execRes_5_B (s : State) : Outcome := resReg 5 .b s

/-- RES 5,C (R269). -/
def execRes_5_C (s : State) : Outcome := resReg 5 .c s

/-- RES 5,D (R269). -/
def execRes_5_D (s : State) : Outcome := resReg 5 .d s

/-- RES 5,E (R269). -/
def execRes_5_E (s : State) : Outcome := resReg 5 .e s

/-- RES 5,H (R269). -/
def execRes_5_H (s : State) : Outcome := resReg 5 .h s

/-- RES 5,L (R269). -/
def execRes_5_L (s : State) : Outcome := resReg 5 .l s

/-- RES 5,(HL) (R270). -/
def execRes_5_atHL (s : State) : Outcome := resAtHL 5 s

/-- RES 5,A (R269). -/
def execRes_5_A (s : State) : Outcome := resReg 5 .a s

/-- RES 6,B (R269). -/
def execRes_6_B (s : State) : Outcome := resReg 6 .b s

/-- RES 6,C (R269). -/
def execRes_6_C (s : State) : Outcome := resReg 6 .c s

/-- RES 6,D (R269). -/
def execRes_6_D (s : State) : Outcome := resReg 6 .d s

/-- RES 6,E (R269). -/
def execRes_6_E (s : State) : Outcome := resReg 6 .e s

/-- RES 6,H (R269). -/
def execRes_6_H (s : State) : Outcome := resReg 6 .h s

/-- RES 6,L (R269). -/
def execRes_6_L (s : State) : Outcome := resReg 6 .l s

/-- RES 6,(HL) (R270). -/
def execRes_6_atHL (s : State) : Outcome := resAtHL 6 s

/-- RES 6,A (R269). -/
def execRes_6_A (s : State) : Outcome := resReg 6 .a s

/-- RES 7,B (R269). -/
def execRes_7_B (s : State) : Outcome := resReg 7 .b s

/-- RES 7,C (R269). -/
def execRes_7_C (s : State) : Outcome := resReg 7 .c s

/-- RES 7,D (R269). -/
def execRes_7_D (s : State) : Outcome := resReg 7 .d s

/-- RES 7,E (R269). -/
def execRes_7_E (s : State) : Outcome := resReg 7 .e s

/-- RES 7,H (R269). -/
def execRes_7_H (s : State) : Outcome := resReg 7 .h s

/-- RES 7,L (R269). -/
def execRes_7_L (s : State) : Outcome := resReg 7 .l s

/-- RES 7,(HL) (R270). -/
def execRes_7_atHL (s : State) : Outcome := resAtHL 7 s

/-- RES 7,A (R269). -/
def execRes_7_A (s : State) : Outcome := resReg 7 .a s

/-- SET 0,B (R271). -/
def execSet_0_B (s : State) : Outcome := setReg 0 .b s

/-- SET 0,C (R271). -/
def execSet_0_C (s : State) : Outcome := setReg 0 .c s

/-- SET 0,D (R271). -/
def execSet_0_D (s : State) : Outcome := setReg 0 .d s

/-- SET 0,E (R271). -/
def execSet_0_E (s : State) : Outcome := setReg 0 .e s

/-- SET 0,H (R271). -/
def execSet_0_H (s : State) : Outcome := setReg 0 .h s

/-- SET 0,L (R271). -/
def execSet_0_L (s : State) : Outcome := setReg 0 .l s

/-- SET 0,(HL) (R272). -/
def execSet_0_atHL (s : State) : Outcome := setAtHL 0 s

/-- SET 0,A (R271). -/
def execSet_0_A (s : State) : Outcome := setReg 0 .a s

/-- SET 1,B (R271). -/
def execSet_1_B (s : State) : Outcome := setReg 1 .b s

/-- SET 1,C (R271). -/
def execSet_1_C (s : State) : Outcome := setReg 1 .c s

/-- SET 1,D (R271). -/
def execSet_1_D (s : State) : Outcome := setReg 1 .d s

/-- SET 1,E (R271). -/
def execSet_1_E (s : State) : Outcome := setReg 1 .e s

/-- SET 1,H (R271). -/
def execSet_1_H (s : State) : Outcome := setReg 1 .h s

/-- SET 1,L (R271). -/
def execSet_1_L (s : State) : Outcome := setReg 1 .l s

/-- SET 1,(HL) (R272). -/
def execSet_1_atHL (s : State) : Outcome := setAtHL 1 s

/-- SET 1,A (R271). -/
def execSet_1_A (s : State) : Outcome := setReg 1 .a s

/-- SET 2,B (R271). -/
def execSet_2_B (s : State) : Outcome := setReg 2 .b s

/-- SET 2,C (R271). -/
def execSet_2_C (s : State) : Outcome := setReg 2 .c s

/-- SET 2,D (R271). -/
def execSet_2_D (s : State) : Outcome := setReg 2 .d s

/-- SET 2,E (R271). -/
def execSet_2_E (s : State) : Outcome := setReg 2 .e s

/-- SET 2,H (R271). -/
def execSet_2_H (s : State) : Outcome := setReg 2 .h s

/-- SET 2,L (R271). -/
def execSet_2_L (s : State) : Outcome := setReg 2 .l s

/-- SET 2,(HL) (R272). -/
def execSet_2_atHL (s : State) : Outcome := setAtHL 2 s

/-- SET 2,A (R271). -/
def execSet_2_A (s : State) : Outcome := setReg 2 .a s

/-- SET 3,B (R271). -/
def execSet_3_B (s : State) : Outcome := setReg 3 .b s

/-- SET 3,C (R271). -/
def execSet_3_C (s : State) : Outcome := setReg 3 .c s

/-- SET 3,D (R271). -/
def execSet_3_D (s : State) : Outcome := setReg 3 .d s

/-- SET 3,E (R271). -/
def execSet_3_E (s : State) : Outcome := setReg 3 .e s

/-- SET 3,H (R271). -/
def execSet_3_H (s : State) : Outcome := setReg 3 .h s

/-- SET 3,L (R271). -/
def execSet_3_L (s : State) : Outcome := setReg 3 .l s

/-- SET 3,(HL) (R272). -/
def execSet_3_atHL (s : State) : Outcome := setAtHL 3 s

/-- SET 3,A (R271). -/
def execSet_3_A (s : State) : Outcome := setReg 3 .a s

/-- SET 4,B (R271). -/
def execSet_4_B (s : State) : Outcome := setReg 4 .b s

/-- SET 4,C (R271). -/
def execSet_4_C (s : State) : Outcome := setReg 4 .c s

/-- SET 4,D (R271). -/
def execSet_4_D (s : State) : Outcome := setReg 4 .d s

/-- SET 4,E (R271). -/
def execSet_4_E (s : State) : Outcome := setReg 4 .e s

/-- SET 4,H (R271). -/
def execSet_4_H (s : State) : Outcome := setReg 4 .h s

/-- SET 4,L (R271). -/
def execSet_4_L (s : State) : Outcome := setReg 4 .l s

/-- SET 4,(HL) (R272). -/
def execSet_4_atHL (s : State) : Outcome := setAtHL 4 s

/-- SET 4,A (R271). -/
def execSet_4_A (s : State) : Outcome := setReg 4 .a s

/-- SET 5,B (R271). -/
def execSet_5_B (s : State) : Outcome := setReg 5 .b s

/-- SET 5,C (R271). -/
def execSet_5_C (s : State) : Outcome := setReg 5 .c s

/-- SET 5,D (R271). -/
def execSet_5_D (s : State) : Outcome := setReg 5 .d s

/-- SET 5,E (R271). -/
def execSet_5_E (s : State) : Outcome := setReg 5 .e s

/-- SET 5,H (R271). -/
def execSet_5_H (s : State) : Outcome := setReg 5 .h s

/-- SET 5,L (R271). -/
def execSet_5_L (s : State) : Outcome := setReg 5 .l s

/-- SET 5,(HL) (R272). -/
def execSet_5_atHL (s : State) : Outcome := setAtHL 5 s

/-- SET 5,A (R271). -/
def execSet_5_A (s : State) : Outcome := setReg 5 .a s

/-- SET 6,B (R271). -/
def execSet_6_B (s : State) : Outcome := setReg 6 .b s

/-- SET 6,C (R271). -/
def execSet_6_C (s : State) : Outcome := setReg 6 .c s

/-- SET 6,D (R271). -/
def execSet_6_D (s : State) : Outcome := setReg 6 .d s

/-- SET 6,E (R271). -/
def execSet_6_E (s : State) : Outcome := setReg 6 .e s

/-- SET 6,H (R271). -/
def execSet_6_H (s : State) : Outcome := setReg 6 .h s

/-- SET 6,L (R271). -/
def execSet_6_L (s : State) : Outcome := setReg 6 .l s

/-- SET 6,(HL) (R272). -/
def execSet_6_atHL (s : State) : Outcome := setAtHL 6 s

/-- SET 6,A (R271). -/
def execSet_6_A (s : State) : Outcome := setReg 6 .a s

/-- SET 7,B (R271). -/
def execSet_7_B (s : State) : Outcome := setReg 7 .b s

/-- SET 7,C (R271). -/
def execSet_7_C (s : State) : Outcome := setReg 7 .c s

/-- SET 7,D (R271). -/
def execSet_7_D (s : State) : Outcome := setReg 7 .d s

/-- SET 7,E (R271). -/
def execSet_7_E (s : State) : Outcome := setReg 7 .e s

/-- SET 7,H (R271). -/
def execSet_7_H (s : State) : Outcome := setReg 7 .h s

/-- SET 7,L (R271). -/
def execSet_7_L (s : State) : Outcome := setReg 7 .l s

/-- SET 7,(HL) (R272). -/
def execSet_7_atHL (s : State) : Outcome := setAtHL 7 s

/-- SET 7,A (R271). -/
def execSet_7_A (s : State) : Outcome := setReg 7 .a s

end Sys2Proof.Machine
end

