-- ==== Sys2Proof/Machine/System.lean ====
section
/-! DEFINITION. NOP, HALT, STOP, DI, EI, the undefined values and the prefix (44_system.md). PC stands past the instruction's bytes (00_scope.md R11); each definition follows the rule of 44_system.md named beside it. -/

namespace Sys2Proof.Machine

/-! ## Shared operations -/

/-- NOP (R240). -/
def noOperation (s : State) : Outcome := done 4 s

/-- HALT (R241): with IME = 0 and an enabled source pending it raises HaltBugUnmodelled (D37). -/
def enterHalt (s : State) : Outcome :=
  if s.ime = false ∧ s.pending ≠ 0 then (raise (.haltBugUnmodelled s.regs.pc) s).finish
  else done 4 { s with halted := true }

/-- STOP (R242): PC is the address of the 0x10 + 1. -/
def stopFault (s : State) : Outcome := (raise (.stopUnmodelled s.regs.pc) s).finish

/-- DI and EI (R243, R244): IME is written at once (D39). -/
def setIME (v : Bool) (s : State) : Outcome := done 4 { s with ime := v }

/-- An undefined primary value (R245): PC is the opcode's address + 1. -/
def undefinedOp (op : Byte) (s : State) : Outcome := (raise (.undefinedOpcode op s.regs.pc) s).finish

/-! ## The instructions -/

/-- NOP (R240). -/
def execNop (s : State) : Outcome := noOperation s

/-- STOP (R242). -/
def execStop (s : State) : Outcome := stopFault s

/-- HALT (R241). -/
def execHalt (s : State) : Outcome := enterHalt s

/-- PREFIX CB (R246). -/
def execPrefix_CB (x : Byte) (s : State) : Outcome := executeCb x s

/-- UNDEFINED 0xD3 (R245). -/
def execUndefined_D3 (s : State) : Outcome := undefinedOp 0xD3 s

/-- UNDEFINED 0xDB (R245). -/
def execUndefined_DB (s : State) : Outcome := undefinedOp 0xDB s

/-- UNDEFINED 0xDD (R245). -/
def execUndefined_DD (s : State) : Outcome := undefinedOp 0xDD s

/-- UNDEFINED 0xE3 (R245). -/
def execUndefined_E3 (s : State) : Outcome := undefinedOp 0xE3 s

/-- UNDEFINED 0xE4 (R245). -/
def execUndefined_E4 (s : State) : Outcome := undefinedOp 0xE4 s

/-- UNDEFINED 0xEB (R245). -/
def execUndefined_EB (s : State) : Outcome := undefinedOp 0xEB s

/-- UNDEFINED 0xEC (R245). -/
def execUndefined_EC (s : State) : Outcome := undefinedOp 0xEC s

/-- UNDEFINED 0xED (R245). -/
def execUndefined_ED (s : State) : Outcome := undefinedOp 0xED s

/-- DI (R243). -/
def execDi (s : State) : Outcome := setIME false s

/-- UNDEFINED 0xF4 (R245). -/
def execUndefined_F4 (s : State) : Outcome := undefinedOp 0xF4 s

/-- EI (R244). -/
def execEi (s : State) : Outcome := setIME true s

/-- UNDEFINED 0xFC (R245). -/
def execUndefined_FC (s : State) : Outcome := undefinedOp 0xFC s

/-- UNDEFINED 0xFD (R245). -/
def execUndefined_FD (s : State) : Outcome := undefinedOp 0xFD s

end Sys2Proof.Machine
end

