-- ==== Sys2Proof/Machine/Ppu.lean ====
section
/-! DEFINITION. The PPU: timing (60_exceptions.md R340-R347) and the rendering of a line (R348-R354). -/

namespace Sys2Proof.Machine

/-! ## Tiles and background -/

/-- The byte at offset `o` of VRAM, read directly (60_exceptions.md R348). -/
def State.vram (s : State) (o : Nat) : Byte := s.mem.read (0x8000 + o)

/-- The colour index of column `x` in the two bit planes of a tile row: bit 7-x of each (20_memory.md R67, D23). -/
def planePixel (lo hi : Byte) (x : Nat) : BitVec 2 :=
  BitVec.ofBool (hi.getLsbD (7 - x)) ++ BitVec.ofBool (lo.getLsbD (7 - x))

/-- The tile cache: `tiles[t][y][x]`, the decode of VRAM (10_state.md R42, 20_memory.md R83). -/
def State.tilePixel (s : State) (t y x : Nat) : BitVec 2 :=
  planePixel (s.vram (16 * t + 2 * y)) (s.vram (16 * t + 2 * y + 1)) x

/-- `tile_of(t)` (60_exceptions.md R349, D28): unsigned from 0x8000 when LCDC.4 = 1, signed from 0x9000 otherwise. -/
def tileOf (lcdc t : Byte) : Nat :=
  if lcdc.getLsbD 4 then t.toNat
  else if t.toNat < 128 then 256 + t.toNat
  else t.toNat

/-- The offset of the selected tile map in VRAM (60_exceptions.md R348, D27). -/
def mapBase (lcdc : Byte) : Nat := if lcdc.getLsbD 3 then 0x1C00 else 0x1800

/-- The background colour index of pixel `x` of line `ly` (60_exceptions.md R348, D33, D49). -/
def State.bgIndex (s : State) (ly x : Nat) : BitVec 2 :=
  if s.ppu.lcdc.getLsbD 0 then
    let by8 : Byte := BitVec.ofNat 8 ly + s.ppu.scy
    let bx8 : Byte := BitVec.ofNat 8 x + s.ppu.scx
    let t := s.vram (mapBase s.ppu.lcdc + 32 * (by8.toNat / 8) + bx8.toNat / 8)
    s.tilePixel (tileOf s.ppu.lcdc t) (by8.toNat % 8) (bx8.toNat % 8)
  else 0

/-! ## Sprites -/

/-- A sprite-attribute entry: OAM bytes 4i..4i+3 (60_exceptions.md R351, D30). -/
structure Sprite where
  y : Byte
  x : Byte
  tile : Byte
  attr : Byte
deriving DecidableEq, Repr

/-- Entry `i` of the object table. -/
def State.sprite (s : State) (i : Nat) : Sprite where
  y := s.mem.read (0xFE00 + 4 * i)
  x := s.mem.read (0xFE00 + 4 * i + 1)
  tile := s.mem.read (0xFE00 + 4 * i + 2)
  attr := s.mem.read (0xFE00 + 4 * i + 3)

/-- The entry is on line `ly`: `Y - 16 ≤ ly < Y - 16 + 8` in integers (60_exceptions.md R351). -/
def Sprite.onLine (o : Sprite) (ly : Nat) : Bool := decide (o.y.toNat ≤ ly + 16 ∧ ly + 16 < o.y.toNat + 8)

/-- The colour index of the sprite's column `c` on line `ly`, after the flips (60_exceptions.md R352). -/
def State.spriteIndex (s : State) (o : Sprite) (ly c : Nat) : BitVec 2 :=
  let row := ly + 16 - o.y.toNat
  let row := if o.attr.getLsbD 6 then 7 - row else row
  let col := if o.attr.getLsbD 5 then 7 - c else c
  s.tilePixel o.tile.toNat row col

/-- Column `c` of a sprite drawn onto the line `px`: clipped at the borders, transparent where its index is 0, behind the
background where attribute bit 7 asks for it (60_exceptions.md R352, R353). -/
def State.drawColumn (s : State) (o : Sprite) (ly : Nat) (bg : List (BitVec 2)) (px : Line) (c : Nat) : Line :=
  let at8 := o.x.toNat + c
  let idx := s.spriteIndex o ly c
  if at8 < 8 ∨ 160 ≤ at8 - 8 then px
  else if idx = 0 then px
  else if o.attr.getLsbD 7 = true ∧ bg.getD (at8 - 8) 0 ≠ 0 then px
  else px.set (at8 - 8) ((if o.attr.getLsbD 4 then s.ppu.objPal1 else s.ppu.objPal0).entry idx)

/-- One sprite drawn onto the line. -/
def State.drawSprite (s : State) (ly : Nat) (bg : List (BitVec 2)) (px : Line) (i : Nat) : Line :=
  let o := s.sprite i
  if o.onLine ly then (List.range 8).foldl (s.drawColumn o ly bg) px else px

/-- The sprites of a line, in the order 39, 38, ..., 0 (60_exceptions.md R351, R353, D31). -/
def State.drawSprites (s : State) (ly : Nat) (bg : List (BitVec 2)) (px : Line) : Line :=
  if s.ppu.lcdc.getLsbD 1 then (List.range 40).reverse.foldl (s.drawSprite ly bg) px else px

/-! ## A line -/

/-- The background indexes of line `ly`. -/
def State.bgLine (s : State) (ly : Nat) : List (BitVec 2) := (List.range 160).map (s.bgIndex ly)

/-- The colour of a background pixel of index `idx`: its entry in the background palette (60_exceptions.md R348, R350); with
LCDC.0 = 0 the background is blank, `SHADE_RGB[0]` whatever BGP holds (92_eei_decisions.md D33, which R348 cites; 10_state.md
R39). DEDUCED (log 24): the ruling D33 is followed there, not the last line of R348's pseudocode. -/
def State.bgColour (s : State) (idx : BitVec 2) : Rgb :=
  if s.ppu.lcdc.getLsbD 0 then s.ppu.bgPal.entry idx else s.params.shade 0

/-- The pixels of line `ly` as the registers, VRAM and OAM stand (60_exceptions.md R348-R354). -/
def State.lineOf (s : State) (ly : Nat) : Line :=
  s.drawSprites ly (s.bgLine ly) ((s.bgLine ly).map s.bgColour)

/-- `render_line(ly)`: only `fb[ly]` and `bgidx` are written (60_exceptions.md R354). -/
def State.renderLine (s : State) (ly : Nat) : State :=
  { s with ppu := { s.ppu with
      bgidx := s.bgLine ly
      fb := Sparse.set blankLine s.ppu.fb ly (s.lineOf ly) } }

/-- `fb[y][x]` (10_state.md R43). -/
def Ppu.pixel (p : Ppu) (y x : Nat) : Rgb := (Sparse.get blankLine p.fb y).getD x Rgb.black

/-! ## Timing -/

/-- The dot budget of a mode (60_exceptions.md R340). -/
def budget (m : PpuMode) : Nat :=
  match m with
  | .oamScan => 80
  | .pixelTransfer => 172
  | .hblank => 204
  | .vblank => 456

/-- VBlank entry: IF.0 is set if IE.0 is set, then the host receives `present(fb)` (60_exceptions.md R345, D51). -/
def State.enterVBlank (s : State) : State :=
  let s := if s.ie.getLsbD 0 then { s with ifl := s.ifl ||| 0x01 } else s
  { s with ppu := { s.ppu with mode := .vblank, presented := s.ppu.fb :: s.ppu.presented } }

/-- The transition out of the current mode (60_exceptions.md R342, R343, R344, R346). -/
def State.transition (s : State) : State :=
  match s.ppu.mode with
  | .oamScan => { s with ppu := { s.ppu with mode := .pixelTransfer } }
  | .pixelTransfer =>
    let s := s.renderLine s.ppu.ly
    { s with ppu := { s.ppu with mode := .hblank } }
  | .hblank =>
    let ly := s.ppu.ly + 1
    let s := { s with ppu := { s.ppu with ly := ly } }
    if ly = 144 then s.enterVBlank else { s with ppu := { s.ppu with mode := .oamScan } }
  | .vblank =>
    let ly := s.ppu.ly + 1
    if ly = 154 then { s with ppu := { s.ppu with ly := 0, mode := .oamScan } }
    else { s with ppu := { s.ppu with ly := ly } }

/-- The loop of `ppu_step`: transitions while the dots reach the budget, the remainder carried (60_exceptions.md R341,
90_conflicts.md C1). Each pass uses at least 80 dots, so `fuel` of the dots is enough. -/
def ppuLoop : Nat → State → State
  | 0, s => s
  | fuel + 1, s =>
    if budget s.ppu.mode ≤ s.ppu.dots then
      ppuLoop fuel
        { s with ppu := { s.ppu with dots := s.ppu.dots - budget s.ppu.mode } }.transition
    else s

/-- `ppu_step(c)` (60_exceptions.md R341). -/
def ppuStep (c : Nat) (s : State) : State :=
  let dots := s.ppu.dots + c
  ppuLoop (dots / 80) { s with ppu := { s.ppu with dots := dots } }

end Sys2Proof.Machine
end

