-- ==== Sys2Proof/Machine/Scheduler.lean ====
section
/-! DEFINITION. What the scheduler does after an instruction (60_exceptions.md R330, R331, R320). -/

namespace Sys2Proof.Machine

/-- The HALT wake test, after the PPU step and before the interrupt step (60_exceptions.md R320). -/
def State.wake (s : State) : State := if s.pending ≠ 0 then { s with halted := false } else s

/-- The rest of an iteration whose instruction cost `c`: the PPU step, the wake test, the interrupt step, the cycle total
(60_exceptions.md R330). The service's cost reaches only the total (R316). -/
def finishIteration (c : Nat) (s : State) : Outcome :=
  match irqStep (ppuStep c s).wake with
  | .ok ic s => .next { s with totalCycles := s.totalCycles + c + ic }
  | .raised info s => .fault (.raised info s)

/-- The cost of an iteration that is halted (60_exceptions.md R331). -/
def haltedCost : Nat := 4

/-- A program's bytes placed at PC in a machine that is neither halted nor faulted, so that the next iteration fetches
them (log 19). -/
def State.loadAtPC (s : State) (bytes : List Byte) : State :=
  { s with halted := false, fault := none }.placeBytes s.regs.pc bytes

end Sys2Proof.Machine
end

