-- ==== Sys2Proof/Machine/Step.lean ====
section
/-! DEFINITION. One step: one scheduler iteration (60_exceptions.md R330). -/

namespace Sys2Proof.Machine

/-- One iteration. A faulted machine has no further step (10_state.md R31); a value of `RANDOM_ADDR` that 20_memory.md R79
excludes is refused; a halted machine fetches nothing (60_exceptions.md R331); a raise ends the iteration before the PPU
and interrupt steps (60_exceptions.md R303). -/
def step (s : State) : Host.Outcome State Fault Refusal :=
  if s.params.legal then
    match s.fault with
    | some info => .fault (.raised info s)
    | none =>
      if s.halted then finishIteration haltedCost s
      else
        match fetch s with
        | .raised info s => .fault (.raised info s)
        | .ok i s =>
          match exec i s with
          | .next t => finishIteration t.cost t
          | .fault r => .fault r
          | .refused r => .refused r
  else .refused (.illegalRandomAddr s.params.randomAddr)

/-- `s` with the instruction of a table word placed where the next iteration fetches (log 14, 19). -/
def State.withFetchWord (s : State) (nbits w : Nat) : State := s.loadAtPC (tableBytes nbits w)

end Sys2Proof.Machine
end

