-- ==== Sys2Proof/Safety.lean ====
section
/-! DEFINITION. Safe runs, the vocabulary of the statements (bus accesses, frames) and the invariant of the machine. -/

namespace Sys2Proof.Machine

/-- `k` iterations from `s` end in a next state: none faulted, none was refused. A raise is the outcome of the iteration
that raises, and a faulted machine "is never a successful end" (60_exceptions.md R303, 92_eei_decisions.md D42). -/
def SafeFor (k : Nat) (s : State) : Prop := ∃ t, Host.Core.run Sys2Proof.core k s = .next t

/-! ## Bus accesses -/

/-- A read of `a` raises nothing: only an address of the ROM region at or beyond the image length raises (20_memory.md
R64, 60_exceptions.md R301 F3). -/
abbrev State.readable (s : State) (a : Word) : Prop := a.toNat < 0x8000 → a.toNat < s.romSize

/-- The byte a readable address gives: a joypad read and a read of `RANDOM_ADDR` answer a host draw, every other address
its stored byte (20_memory.md R77, R79, R89). -/
def State.readValue (s : State) (a : Word) : Byte :=
  if a = 0xFF00 then joypadByte (s.stored a) (Config.hostDir s.joypadDraws) (Config.hostAct s.joypadDraws)
  else if region a = some .io ∧ a = s.params.randomAddr then Config.hostRnd s.rndDraws
  else s.stored a

/-- The state after a read of a readable address: the draw it takes is used up, all else stands (20_memory.md R89). -/
def State.drawn (s : State) (a : Word) : State :=
  if a = 0xFF00 then { s with joypadDraws := s.joypadDraws + 1 }
  else if region a = some .io ∧ a = s.params.randomAddr then { s with rndDraws := s.rndDraws + 1 }
  else s

/-- Both bytes of a 16-bit read are readable. -/
abbrev State.readable16 (s : State) (a : Word) : Prop := s.readable a ∧ s.readable (a + 1)

/-- The word of a 16-bit read: low byte at `a`, then high byte at `a + 1` (20_memory.md R84). -/
def State.readValue16 (s : State) (a : Word) : Word := wordOf ((s.drawn a).readValue (a + 1)) (s.readValue a)

/-- The state after a 16-bit read. -/
def State.drawn16 (s : State) (a : Word) : State := (s.drawn a).drawn (a + 1)

/-- The `n` bytes read one after another from `a` on, and the state after those reads. -/
def State.readBytes : Nat → Word → State → List Byte × State
  | 0, _, s => ([], s)
  | n + 1, a, s =>
    let r := State.readBytes n (a + 1) (s.drawn a)
    (s.readValue a :: r.1, r.2)

/-- A write of `v` to `a` raises nothing: only a DMA copy whose source is not readable raises (20_memory.md R76). -/
abbrev State.writable (s : State) (a : Word) (v : Byte) : Prop :=
  a = 0xFF46 → ∀ i, i < 160 → s.readable (wordOf v 0 + BitVec.ofNat 16 i)

/-- Both bytes of a 16-bit write are writable. -/
abbrev State.writable16 (s : State) (a : Word) (v : Word) : Prop :=
  s.writable a (lowByte v) ∧ s.writable (a + 1) (highByte v)

/-- `b` is one of the 160 bytes of the object table, which a DMA copy writes (20_memory.md R76). -/
abbrev inObjectTable (b : Word) : Prop := 0xFE00 ≤ b.toNat ∧ b.toNat < 0xFEA0

/-- `t` is `s` after the byte `v` is written to `a` (20_memory.md R63, R65-R71, R73, R74, R76, R80, R81), whatever became of
the CPU registers and the cost, of which it says nothing. -/
structure Stored (s : State) (a : Word) (v : Byte) (t : State) : Prop where
  /-- The byte is there, unless the address is in the ROM region. -/
  value : 0x8000 ≤ a.toNat → t.stored a = v
  /-- Every byte but the one written, and but the object table where the write is a DMA trigger, is as before; the ROM is
  as before in any case. `home` resolves the mirror. -/
  others : ∀ b, (home b ≠ home a ∨ a.toNat < 0x8000) → (a = 0xFF46 → ¬ inObjectTable b) → t.stored b = s.stored b
  /-- A DMA trigger copies the 160 bytes of its source page, each as a bus read gives it, with the trigger byte already
  stored. -/
  table : a = 0xFF46 → ∀ i, i < 160 →
    t.stored (0xFE00 + BitVec.ofNat 16 i) = (s.storeMem 0xFF46 v).readValue (wordOf v 0 + BitVec.ofNat 16 i)
  /-- A palette's four entries follow its raw byte. -/
  palettes :
    t.ppu.bgPal = (if a = 0xFF47 then decodePalette s.params v else s.ppu.bgPal) ∧
    t.ppu.objPal0 = (if a = 0xFF48 then decodePalette s.params v else s.ppu.objPal0) ∧
    t.ppu.objPal1 = (if a = 0xFF49 then decodePalette s.params v else s.ppu.objPal1)
  /-- Only the reads of a DMA copy take host draws. -/
  draws : a ≠ 0xFF46 → t.joypadDraws = s.joypadDraws ∧ t.rndDraws = s.rndDraws
  /-- Nothing but the bytes on the bus, the palettes and the draws is touched: not IME, `halted`, `fault`, the image, the
  cartridge tag, the parameters, the cycle total, nor the PPU's mode, LY, dots, framebuffer and `present` record. -/
  rest : t = { s with
    regs := t.regs, cost := t.cost, ie := t.ie, ifl := t.ifl, mem := t.mem
    joypadDraws := t.joypadDraws, rndDraws := t.rndDraws
    ppu := { s.ppu with
      lcdc := t.ppu.lcdc, scy := t.ppu.scy, scx := t.ppu.scx, bgp := t.ppu.bgp, obp0 := t.ppu.obp0, obp1 := t.ppu.obp1
      bgPal := t.ppu.bgPal, objPal0 := t.ppu.objPal0, objPal1 := t.ppu.objPal1 } }

/-- `t` is `s` after the word `v` is written to `a`: the low byte to `a`, then the high byte to `a + 1` (20_memory.md
R85). -/
def Stored16 (s : State) (a : Word) (v : Word) (t : State) : Prop :=
  ∃ m, Stored s a (lowByte v) m ∧ Stored m (a + 1) (highByte v) t

/-! ## Frames -/

/-- `t` differs from `s` in CPU registers and in the cost handed back, and in nothing else: every byte of memory and every
other register reads as before. -/
structure OnlyRegs (s t : State) : Prop where
  rest : t = { s with regs := t.regs, cost := t.cost }
  bytes : ∀ a, t.stored a = s.stored a

/-- The 8-bit registers outside `ds` are as before. F is not among them. -/
def KeepsReg8 (ds : List Reg8) (s t : State) : Prop := ∀ q, q ∉ ds → t.reg8 q = s.reg8 q

/-- F holds these four flags and a zero low nibble (10_state.md R22). -/
def FlagsAre (t : State) (z n h c : Bool) : Prop :=
  t.flagZ = z ∧ t.flagN = n ∧ t.flagH = h ∧ t.flagC = c ∧ t.regs.f &&& 0x0F = 0

/-- F, SP and PC are as before (PC stands past the instruction's bytes before and after). -/
def KeepsFSpPc (s t : State) : Prop := t.regs.f = s.regs.f ∧ t.regs.sp = s.regs.sp ∧ t.regs.pc = s.regs.pc

/-- SP and PC are as before. -/
def KeepsSpPc (s t : State) : Prop := t.regs.sp = s.regs.sp ∧ t.regs.pc = s.regs.pc

/-- The 8-bit registers a pair is made of. -/
def pairParts (p : Pair) : List Reg8 :=
  match p with
  | .bc => [.b, .c]
  | .de => [.d, .e]
  | .hl => [.h, .l]
  | .sp => []

/-- The 8-bit registers a stack pair is made of, F apart. -/
def stackPairParts (q : StackPair) : List Reg8 :=
  match q with
  | .bc => [.b, .c]
  | .de => [.d, .e]
  | .hl => [.h, .l]
  | .af => [.a]

/-- What no instruction touches, only the PPU step and the scheduler do: the PPU's timing and pictures, the cycle total; and
what nothing touches after reset: the image, the tag, the parameters (60_exceptions.md R333, R354; 10_state.md R34-R37,
R43, R45). -/
structure LeavesTiming (s t : State) : Prop where
  mode : t.ppu.mode = s.ppu.mode
  ly : t.ppu.ly = s.ppu.ly
  dots : t.ppu.dots = s.ppu.dots
  fb : t.ppu.fb = s.ppu.fb
  presented : t.ppu.presented = s.ppu.presented
  totalCycles : t.totalCycles = s.totalCycles
  rom : t.rom = s.rom
  romSize : t.romSize = s.romSize
  cartType : t.cartType = s.cartType
  params : t.params = s.params

/-! ## The values of the operand fields (30_encoding.md R102-R106) -/

/-- The field `r` of a register (R102); 6 is (HL). -/
def regField (r : Reg8) : Nat :=
  match r with
  | .b => 0
  | .c => 1
  | .d => 2
  | .e => 3
  | .h => 4
  | .l => 5
  | .a => 7

/-- The field `p` (R103). -/
def pairField (p : Pair) : Nat :=
  match p with
  | .bc => 0
  | .de => 1
  | .hl => 2
  | .sp => 3

/-- The field `q` (R104). -/
def stackField (q : StackPair) : Nat :=
  match q with
  | .bc => 0
  | .de => 1
  | .hl => 2
  | .af => 3

/-- The field `cc` (R105). -/
def condField (cc : Cond) : Nat :=
  match cc with
  | .nz => 0
  | .z => 1
  | .nc => 2
  | .c => 3

/-- The field `o` of the 8-bit operations (R106). -/
def aluField (o : AluOp) : Nat :=
  match o with
  | .add => 0
  | .adc => 1
  | .sub => 2
  | .sbc => 3
  | .and => 4
  | .xor => 5
  | .or => 6
  | .cp => 7

/-- The field `bbb` of the extended rotates, shifts and swaps (R108). -/
def rotField (o : RotOp) : Nat :=
  match o with
  | .rlc => 0
  | .rrc => 1
  | .rl => 2
  | .rr => 3
  | .sla => 4
  | .sra => 5
  | .swap => 6
  | .srl => 7

/-- The opcode byte with these fields. -/
abbrev opByte (n : Nat) : Byte := BitVec.ofNat 8 n

/-! ## Effects in integers -/

/-- The carry an 8-bit operation reads: F.C for ADC and SBC, 0 for the others (41_alu8.md R162-R185). -/
def carryIn (o : AluOp) (s : State) : Nat := if o = .adc ∨ o = .sbc then s.flagC.toNat else 0

/-- What the 8-bit operation `o` with the operand `v` makes of A and F, in integers (41_alu8.md R160, R161, R162-R185). -/
def AluEffect (o : AluOp) (v : Byte) (s t : State) : Prop :=
  let a := s.regs.a.toNat
  let b := v.toNat
  let c := carryIn o s
  match o with
  | .add | .adc =>
    t.regs.a.toNat = (a + b + c) % 256 ∧
      FlagsAre t (decide ((a + b + c) % 256 = 0)) false (decide (a % 16 + b % 16 + c > 15)) (decide (a + b + c > 255))
  | .sub | .sbc =>
    t.regs.a.toNat = (a + 512 - b - c) % 256 ∧
      FlagsAre t (decide ((a + 512 - b - c) % 256 = 0)) true (decide (a % 16 < b % 16 + c)) (decide (a < b + c))
  | .cp => t.regs.a = s.regs.a ∧ FlagsAre t (decide (a = b)) true (decide (a % 16 < b % 16)) (decide (a < b))
  | .and => t.regs.a = s.regs.a &&& v ∧ FlagsAre t (decide (s.regs.a &&& v = 0)) false true false
  | .xor => t.regs.a = s.regs.a ^^^ v ∧ FlagsAre t (decide (s.regs.a ^^^ v = 0)) false false false
  | .or => t.regs.a = s.regs.a ||| v ∧ FlagsAre t (decide (s.regs.a ||| v = 0)) false false false

/-- Instruction `i` completes as the operation `o` on A and `v` and touches nothing but A and F; `u` is `s` after the
operand's read. -/
def AluRuns (i : Instr) (o : AluOp) (v : Byte) (cost : Nat) (s u : State) : Prop :=
  ∃ t, exec i s = .next t ∧ AluEffect o v s t ∧ KeepsReg8 [.a] s t ∧ KeepsSpPc s t ∧ t.cost = cost ∧ OnlyRegs u t

/-- The result of a rotate, shift or swap of the byte `v`, in integers; `c` is F.C, 0 or 1 (45_cb_bitops.md R251, R253,
R255, R257, R259, R261, R263, R265; 41_alu8.md R190-R193). -/
def rotValue (o : RotOp) (v c : Nat) : Nat :=
  match o with
  | .rlc => 2 * v % 256 + v / 128
  | .rrc => v / 2 + 128 * (v % 2)
  | .rl => 2 * v % 256 + c
  | .rr => v / 2 + 128 * c
  | .sla => 2 * v % 256
  | .sra => v / 2 + 128 * (v / 128)
  | .swap => 16 * (v % 16) + v / 16
  | .srl => v / 2

/-- The bit a rotate or shift of `v` moves to F.C: bit 7 to the left, bit 0 to the right, none for SWAP. -/
def rotOut (o : RotOp) (v : Nat) : Bool :=
  match o with
  | .rlc | .rl | .sla => decide (128 ≤ v)
  | .rrc | .rr | .sra | .srl => decide (v % 2 = 1)
  | .swap => false

/-- `w` is `v` with bit `b` made `x` and the other bits as they are (45_cb_bitops.md R269, R271). -/
def BitMade (b : Fin 8) (x : Bool) (v w : Byte) : Prop := ∀ k, k < 8 → w.getLsbD k = if k = b.val then x else v.getLsbD k

/-! ## Pictures -/

/-- The background colour index of pixel `x` of line `ly`, in integers (60_exceptions.md R348, R349). -/
def State.bgAt (s : State) (ly x : Nat) : BitVec 2 :=
  if s.ppu.lcdc.getLsbD 0 = false then 0
  else
    let row := (ly + s.ppu.scy.toNat) % 256
    let col := (x + s.ppu.scx.toNat) % 256
    let base := if s.ppu.lcdc.getLsbD 3 then 0x9C00 else 0x9800
    let t := s.stored (BitVec.ofNat 16 (base + 32 * (row / 8) + col / 8))
    let tile := if s.ppu.lcdc.getLsbD 4 then t.toNat else (256 + t.toInt).toNat
    s.tilePixel tile (row % 8) (col % 8)

/-- The colour index sprite `i` has at pixel `x` of line `ly`, in integers, where the sprite covers it (60_exceptions.md
R351, R352). -/
def State.spriteAt (s : State) (i ly x : Nat) : BitVec 2 :=
  let o := s.sprite i
  let row := if o.attr.getLsbD 6 then o.y.toNat + 7 - (ly + 16) else ly + 16 - o.y.toNat
  let col := if o.attr.getLsbD 5 then o.x.toNat + 7 - (x + 8) else x + 8 - o.x.toNat
  s.tilePixel o.tile.toNat row col

/-- Sprite `i` draws pixel `x` of line `ly`: it is on the line, covers the column, is not transparent there, and is not
behind a background pixel whose index is not 0 (60_exceptions.md R351-R353). -/
def State.spriteShows (s : State) (i ly x : Nat) : Prop :=
  let o := s.sprite i
  (o.y.toNat ≤ ly + 16 ∧ ly + 16 < o.y.toNat + 8) ∧ (o.x.toNat ≤ x + 8 ∧ x + 8 < o.x.toNat + 8) ∧
    s.spriteAt i ly x ≠ 0 ∧ (o.attr.getLsbD 7 = true → s.bgAt ly x = 0)

/-! ## The invariant -/

/-- The PPU between iterations (60_exceptions.md R347, 10_state.md R37, R38). -/
structure Ppu.InStep (p : Ppu) : Prop where
  visible : p.ly ≤ 143 ↔ p.mode ≠ .vblank
  line : p.ly ≤ 153
  dots : p.dots < budget p.mode

/-- A framebuffer: canonical, lines 0 to 143, 160 pixels each (10_state.md R43). -/
structure Screen.Ok (f : Screen) : Prop where
  wf : Sparse.wf blankLine f
  lines : ∀ c ∈ f, c.1 < 144 ∧ c.2.length = 160

/-- The addresses whose bytes `State.mem` holds: VRAM, ERAM, WRAM, OAM, the I/O storage and HRAM, but neither the mirror nor
the registers held elsewhere (10_state.md R33, R34; 20_memory.md R70, R74). -/
def inStorage (n : Nat) : Prop :=
  0x8000 ≤ n ∧ n < 0xFFFF ∧ ¬ (0xE000 ≤ n ∧ n < 0xFE00) ∧
    n ∉ [0xFF0F, 0xFF40, 0xFF42, 0xFF43, 0xFF47, 0xFF48, 0xFF49]

/-- The invariant of a machine that goes on. -/
structure State.Inv (s : State) : Prop where
  mem_wf : s.mem.wf
  mem_storage : ∀ c ∈ s.mem, inStorage c.1
  rom_wf : s.rom.wf
  rom_image : ∀ c ∈ s.rom, c.1 < s.romSize
  cart : s.cartType = CartType.ofByte (s.rom.read 0x0147)
  flags : s.regs.f &&& 0x0F = 0
  running : s.fault = none
  params : s.params.legal = true
  ppu : s.ppu.InStep
  screen : s.ppu.fb.Ok
  shown : ∀ f ∈ s.ppu.presented, Screen.Ok f
  bgidx : s.ppu.bgidx.length = 160
  palettes : s.ppu.bgPal = decodePalette s.params s.ppu.bgp ∧ s.ppu.objPal0 = decodePalette s.params s.ppu.obp0 ∧
    s.ppu.objPal1 = decodePalette s.params s.ppu.obp1

end Sys2Proof.Machine
end

