-- ==== Sys2Proof/Certificates/Slice0/Obligations.lean ====
section
/-! DEFINITION. The statements. Each docstring names the rules of the spec it rests on; the vocabulary is in Safety.lean. The
statements of the instruction families also give the bytes of every form ("Encoding" of each rule), with the operand fields
of 30_encoding.md R102-R108 as numbers. -/

open Sys2Proof Sys2Proof.Machine

/-! ## Decoding and the step -/

/-- Decoding the bytes of any well-formed instruction gives the instruction back, with every operand at every value, and
leaves the bytes after it (30_encoding.md R100, R101, R113). -/
def Obligations.DecodeOfEncodeIsInstruction : Prop :=
  ∀ (i : Instr) (rest : List Byte), wellFormed i = true → decode (encode i ++ rest) = .ok (i, rest)

/-- Decoding is total on three bytes and gives a well-formed instruction; but for STOP, whose second byte is not looked at
(log 15), the bytes it read are that instruction's own (30_encoding.md R113, R115, R116). -/
def Obligations.EncodeOfDecodeIsBytes : Prop :=
  (∀ (b0 b1 b2 : Byte) (more : List Byte), ∃ i rest, decode (b0 :: b1 :: b2 :: more) = .ok (i, rest)) ∧
  ∀ (bytes rest : List Byte) (i : Instr), decode bytes = .ok (i, rest) →
    wellFormed i = true ∧ (i ≠ .stop → bytes = encode i ++ rest)

/-- Words written out from the spec's encodings decode to the instructions they stand for (one or more of each family). -/
def Obligations.DecodeReadsSpecWords : Prop :=
  decode [0b01001000] = .ok (.ld_C_B, []) ∧
  decode [0b00111110, 0x5A] = .ok (.ld_A_d8 0x5A, []) ∧
  decode [0b00110110, 0x7F] = .ok (.ld_atHL_d8 0x7F, []) ∧
  decode [0b11101010, 0xFF, 0xFE] = .ok (.ld_atA16_A 0xFEFF, []) ∧
  decode [0b00110001, 0xFF, 0xDF] = .ok (.ld_SP_d16 0xDFFF, []) ∧
  decode [0b11110101] = .ok (.push_AF, []) ∧
  decode [0b10001011] = .ok (.adc_A_E, []) ∧
  decode [0b11010110, 0x0F] = .ok (.sub_d8 0x0F, []) ∧
  decode [0b00110101] = .ok (.dec_atHL, []) ∧
  decode [0b00111001] = .ok (.add_HL_SP, []) ∧
  decode [0b11101000, 0x02] = .ok (.add_SP_e8 0x02, []) ∧
  decode [0b11001010, 0x00, 0x02] = .ok (.jp_Z_a16 0x0200, []) ∧
  decode [0b00111000, 0xFB] = .ok (.jr_C_e8 0xFB, []) ∧
  decode [0b11101111] = .ok (.rst_28, []) ∧
  decode [0b01110110] = .ok (.halt, []) ∧
  decode [0b11011101] = .ok (.undefined_DD, []) ∧
  decode [0b11001011, 0b00110111] = .ok (.swap_A, []) ∧
  decode [0b11001011, 0b01111100] = .ok (.bit_7_H, []) ∧
  decode [0b11001011, 0b11001011] = .ok (.set_1_E, [])

/-- A machine that is neither faulted nor halted runs the instruction its bytes at PC decode to: `step` reads the
instruction's bytes one after another, moves PC past them, executes it, and ends the iteration with its cost; a fault of
the instruction ends the step (60_exceptions.md R330, R303). -/
def Obligations.StepRunsDecodedInstruction : Prop :=
  ∀ (s : State) (i : Instr), s.params.legal = true → s.fault = none → s.halted = false →
    let n := 1 + operandBytes (s.readValue s.regs.pc)
    (∀ k, k < n → s.readable (s.regs.pc + BitVec.ofNat 16 k)) →
    decode (State.readBytes n s.regs.pc s).1 = .ok (i, []) →
    step s =
      match exec i ((State.readBytes n s.regs.pc s).2.setPC (s.regs.pc + BitVec.ofNat 16 n)) with
      | .next t => finishIteration t.cost t
      | .fault r => .fault r
      | .refused r => .refused r

/-- An iteration that cost `c` ends with the PPU step by `c`, the wake test and the interrupt step, in that order; `c`
and the 20 of a service, and only they, are added to the total, and the service's 20 never reach the PPU
(60_exceptions.md R330, R316, R320). -/
def Obligations.IterationEndsWithPpuAndInterrupts : Prop :=
  ∀ (c : Nat) (s : State),
    let p := ppuStep c s
    let u := { p with halted := p.halted && decide (p.pending = 0) }
    ((u.ime = false ∨ u.pending = 0) → finishIteration c s = .next { u with totalCycles := u.totalCycles + c }) ∧
    (u.ime = true → u.pending ≠ 0 → u.writable16 (u.regs.sp - 2) u.regs.pc →
      ∃ t, irqStep u = .ok 20 t ∧ t.totalCycles = s.totalCycles ∧
        finishIteration c s = .next { t with totalCycles := s.totalCycles + c + 20 })

/-- A fetch at or beyond the image length faults with the address, the first byte of an instruction or a later one, with
PC past the bytes already read and nothing executed; a faulted machine has no further step (20_memory.md R64, R374;
60_exceptions.md R301 F3, R302, R303; 10_state.md R31). -/
def Obligations.FaultsAtFetchAndStays : Prop :=
  (∀ (s : State) (k : Nat), s.params.legal = true → s.fault = none → s.halted = false →
    k < 1 + operandBytes (s.readValue s.regs.pc) → (∀ j, j < k → s.readable (s.regs.pc + BitVec.ofNat 16 j)) →
    let a := s.regs.pc + BitVec.ofNat 16 k
    ¬ s.readable a →
    step s = .fault (.raised (.romReadBeyondImage a)
      { (State.readBytes k s.regs.pc s).2.setPC a with fault := some (.romReadBeyondImage a) })) ∧
  ∀ (s : State) (info : FaultInfo), s.params.legal = true → s.fault = some info → step s = .fault (.raised info s)

/-- A step is refused exactly where `RANDOM_ADDR` has a value the spec tells a model to refuse; no instruction is
(20_memory.md R79). -/
def Obligations.RefusesOnlyIllegalRandomAddr : Prop :=
  ∀ s : State,
    (s.params.legal = true → ∀ r, step s ≠ .refused r) ∧
    (s.params.legal = false → step s = .refused (.illegalRandomAddr s.params.randomAddr)) ∧
    (s.params.legal = true ↔
      (0xFF01 ≤ s.params.randomAddr.toNat ∧ s.params.randomAddr.toNat ≤ 0xFF7F) ∧
      s.params.randomAddr.toNat ∉ [0xFF0F, 0xFF40, 0xFF42, 0xFF43, 0xFF46, 0xFF47, 0xFF48, 0xFF49])

/-- No instruction touches the PPU's timing or pictures, the cycle total, the image, the cartridge tag or the parameters,
whether it completes or faults; one that completes leaves `fault` as it was, one that faults sets it to what it raised;
none is refused (60_exceptions.md R333, R303; 10_state.md R31, R34-R37). -/
def Obligations.InstructionsLeaveTiming : Prop :=
  ∀ (i : Instr) (s : State),
    (∀ t, exec i s = .next t → LeavesTiming s t ∧ t.fault = s.fault) ∧
    (∀ info t, exec i s = .fault (.raised info t) → LeavesTiming s t ∧ t.fault = some info) ∧
    ∀ r, exec i s ≠ .refused r

/-- Of all instructions only DI, EI and RETI write IME, and only HALT sets `halted` (10_state.md R29, R30). -/
def Obligations.OnlyTheirInstructionsWriteImeAndHalted : Prop :=
  ∀ (i : Instr) (s t : State), exec i s = .next t →
    (i ≠ .di → i ≠ .ei → i ≠ .reti → t.ime = s.ime) ∧ (i ≠ .halt → t.halted = s.halted)

/-- A step that faults leaves the machine in the faulted state with that information, and adds nothing to the cycle total
(00_scope.md R10; 60_exceptions.md R300, R303). -/
def Obligations.FaultEndsIterationUncounted : Prop :=
  ∀ (s t : State) (info : FaultInfo), step s = .fault (.raised info t) →
    t.fault = some info ∧ t.totalCycles = s.totalCycles

/-- A halted iteration fetches and executes nothing: PPU by 4 dots, wake test, interrupt step. It stays halted where no
enabled source is pending; it wakes where one is, and is serviced in the same iteration if and only if IME is set
(60_exceptions.md R331, R320; 44_system.md R241). -/
def Obligations.HaltedIterationIdlesUntilPending : Prop :=
  ∀ s : State, s.params.legal = true → s.fault = none → s.halted = true →
    let u := ppuStep 4 s
    (u.pending = 0 → step s = .next { u with totalCycles := s.totalCycles + 4 } ∧ u.halted = true ∧ u.regs = s.regs) ∧
    (u.pending ≠ 0 → s.ime = false → step s = .next { u with halted := false, totalCycles := s.totalCycles + 4 }) ∧
    (u.pending ≠ 0 → s.ime = true → u.writable16 (s.regs.sp - 2) s.regs.pc →
      ∃ t, irqStep { u with halted := false } = .ok 20 t ∧ t.halted = false ∧
        step s = .next { t with totalCycles := s.totalCycles + 24 })

/-! ## Interrupts -/

/-- With IME set, the lowest enabled pending source `k` is serviced, at the cost of 20: IME cleared, PC pushed, PC at
0x0040 + 8k, IF bit k cleared directly (in IF as the push left it), nothing else; with IME clear or no enabled source
pending nothing happens (60_exceptions.md R312, R313, R314, R310). -/
def Obligations.InterruptStepServicesLowestSource : Prop :=
  (∀ (s : State) (k : Nat), k < 5 → s.ime = true → (s.ie &&& s.ifl).getLsbD k = true →
    (∀ j, j < k → (s.ie &&& s.ifl).getLsbD j = false) → s.writable16 (s.regs.sp - 2) s.regs.pc →
    ∃ t u, irqStep s = .ok 20 t ∧ Stored16 { s with ime := false } (s.regs.sp - 2) s.regs.pc u ∧
      t = { u with
        regs := { s.regs with sp := s.regs.sp - 2, pc := 0x0040 + BitVec.ofNat 16 (8 * k) }
        ifl := u.ifl &&& ~~~ ((1 : Byte) <<< k), cost := s.cost }) ∧
  ∀ s : State, (s.ime = false ∨ s.ie &&& s.ifl &&& 0x1F = 0) → irqStep s = .ok 0 s

/-! ## Reset -/

/-- What the spec says reset leaves, for every choice of the arguments it leaves open: the CPU registers at `CPU_INIT`
with F's low nibble 0 (the default values in the state after reset), IME, `halted`, `fault`, the cycle total, IE and IF
clear, the PPU's registers with their palettes, the framebuffer all black, and the tag of image byte 0x0147 (10_state.md
R53, R54, R55, R58, R59). -/
def Obligations.ResetLeavesSpecValues : Prop :=
  (∀ (p : Params) (size : Nat) (rom : Memory) (cpu : Regs) (store : Memory),
    let s := State.construct p size rom cpu store
    s.regs = { cpu with f := cpu.f &&& 0xF0 } ∧
    s.ime = false ∧ s.halted = false ∧ s.fault = none ∧ s.totalCycles = 0 ∧ s.ie = 0x00 ∧ s.ifl = 0x00 ∧
    s.ppu.mode = .oamScan ∧ s.ppu.ly = 0 ∧ s.ppu.dots = 0 ∧ s.ppu.lcdc = 0x91 ∧ s.ppu.scy = 0x00 ∧ s.ppu.scx = 0x00 ∧
    s.ppu.bgp = 0xFC ∧ s.ppu.obp0 = 0xFF ∧ s.ppu.obp1 = 0xFF ∧ s.ppu.bgPal = decodePalette p 0xFC ∧ s.ppu.objPal0 = decodePalette p 0xFF ∧ s.ppu.objPal1 = decodePalette p 0xFF ∧
    (∀ y x, y < 144 → x < 160 → s.ppu.pixel y x = { red := 0, green := 0, blue := 0 }) ∧
    (s.cartType = .plain ↔ rom.read 0x0147 = 0x00) ∧ (s.cartType = .mapper ↔ rom.read 0x0147 = 0x01) ∧
    (s.cartType = .mapperRam ↔ rom.read 0x0147 = 0x02) ∧
    (s.cartType = .unknown ↔ rom.read 0x0147 ≠ 0x00 ∧ rom.read 0x0147 ≠ 0x01 ∧ rom.read 0x0147 ≠ 0x02)) ∧
  State.reset.regs =
    { a := 0x01, f := 0xB0, b := 0x00, c := 0x13, d := 0x00, e := 0xD8, h := 0x01, l := 0x4D, sp := 0xFFFE, pc := 0x0100 }

/-- The invariant holds of the state after reset. -/
def Obligations.ResetMeetsInvariant : Prop := State.reset.Inv

/-- Every step keeps the invariant: canonical memory at storage addresses only, F's low nibble 0, the PPU in a legal mode
of a legal line with dots below the budget, palettes that follow their raw bytes, pictures of the right shape, no fault
(10_state.md R22, R34, R37, R38, R41, R43; 60_exceptions.md R347). -/
def Obligations.StepKeepsInvariant : Prop := ∀ s t : State, s.Inv → step s = .next t → t.Inv

/-! ## The PPU -/

/-- The five transitions, each where the dots fed end the current mode and not the next: OAM-scan to pixel-transfer;
pixel-transfer to HBlank with the line rendered; HBlank to the next line's OAM-scan; HBlank of line 143 to VBlank with
IF.0 raised if IE.0 is set and the picture presented; a VBlank line to the next, line 153 to OAM-scan of line 0. Below the
budget only the dots move (60_exceptions.md R340-R346). -/
def Obligations.PpuTransitionsByMode : Prop :=
  (∀ (s : State) (c : Nat), s.ppu.dots + c < budget s.ppu.mode →
    ppuStep c s = { s with ppu := { s.ppu with dots := s.ppu.dots + c } }) ∧
  ∀ (s : State) (c d : Nat), d < 80 →
    (s.ppu.mode = .oamScan → s.ppu.dots + c = 80 + d →
      ppuStep c s = { s with ppu := { s.ppu with dots := d, mode := .pixelTransfer } }) ∧
    (s.ppu.mode = .pixelTransfer → s.ppu.dots + c = 172 + d →
      ppuStep c s = { s.renderLine s.ppu.ly with
        ppu := { (s.renderLine s.ppu.ly).ppu with dots := d, mode := .hblank } }) ∧
    (s.ppu.mode = .hblank → s.ppu.ly ≠ 143 → s.ppu.dots + c = 204 + d →
      ppuStep c s = { s with ppu := { s.ppu with dots := d, ly := s.ppu.ly + 1, mode := .oamScan } }) ∧
    (s.ppu.mode = .hblank → s.ppu.ly = 143 → s.ppu.dots + c = 204 + d →
      ppuStep c s = { s with
        ifl := if s.ie.getLsbD 0 then s.ifl ||| 0x01 else s.ifl
        ppu := { s.ppu with dots := d, ly := 144, mode := .vblank, presented := s.ppu.fb :: s.ppu.presented } }) ∧
    (s.ppu.mode = .vblank → s.ppu.ly ≠ 153 → s.ppu.dots + c = 456 + d →
      ppuStep c s = { s with ppu := { s.ppu with dots := d, ly := s.ppu.ly + 1 } }) ∧
    (s.ppu.mode = .vblank → s.ppu.ly = 153 → s.ppu.dots + c = 456 + d →
      ppuStep c s = { s with ppu := { s.ppu with dots := d, ly := 0, mode := .oamScan } })

/-- From the start of HBlank of a line `n ≤ 142`, exactly 456 dots end in HBlank of line `n + 1` with dots 0 and that line,
and no other, rendered (60_exceptions.md R347; 90_conflicts.md C1, C10). The line is `lineOf`, whose background
where LCDC.0 = 0 follows D33 (log 24). -/
def Obligations.PpuLineTakes456Dots : Prop :=
  ∀ s : State, s.ppu.mode = .hblank → s.ppu.ly ≤ 142 → s.ppu.dots = 0 →
    let t := ppuStep 456 s
    t.ppu.mode = .hblank ∧ t.ppu.ly = s.ppu.ly + 1 ∧ t.ppu.dots = 0 ∧ t.ifl = s.ifl ∧
      t.ppu.presented = s.ppu.presented ∧
      (∀ x, x < 160 → t.ppu.pixel (s.ppu.ly + 1) x = (s.lineOf (s.ppu.ly + 1)).getD x Rgb.black) ∧
      ∀ y x, y ≠ s.ppu.ly + 1 → t.ppu.pixel y x = s.ppu.pixel y x

/-- Feeding the PPU `a + b` dots at once is feeding it `a` and then `b`: the remainder is carried, never dropped
(60_exceptions.md R341; 90_conflicts.md C1). -/
def Obligations.PpuStepSplits : Prop := ∀ (a b : Nat) (s : State), ppuStep (a + b) s = ppuStep b (ppuStep a s)

/-- After every PPU step the mode agrees with the line and the dots are below the mode's budget, whatever the dots were
before (60_exceptions.md R347; 10_state.md R37, R38). -/
def Obligations.PpuStepKeepsModeAndLine : Prop :=
  ∀ (c : Nat) (s : State), (s.ppu.ly ≤ 143 ↔ s.ppu.mode ≠ .vblank) → s.ppu.ly ≤ 153 → (ppuStep c s).ppu.InStep

/-- A frame is 70,224 dots: from anywhere in it they bring the PPU back to the same mode, line and dots, with exactly one
picture presented (60_exceptions.md R340, R345). -/
def Obligations.FrameTakes70224Dots : Prop :=
  ∀ s : State, s.ppu.InStep →
    let t := ppuStep 70224 s
    t.ppu.mode = s.ppu.mode ∧ t.ppu.ly = s.ppu.ly ∧ t.ppu.dots = s.ppu.dots ∧
      t.ppu.presented.length = s.ppu.presented.length + 1

/-- From line 0 (as after reset) VBlank is first entered when the dots fed reach 65,664, not before (60_exceptions.md
R347; 70_reset_and_hazards.md R388). -/
def Obligations.FirstVBlankAfter65664Dots : Prop :=
  ∀ s : State, s.ppu.mode = .oamScan → s.ppu.ly = 0 → s.ppu.dots = 0 →
    (∀ c, c < 65664 → (ppuStep c s).ppu.mode ≠ .vblank ∧ (ppuStep c s).ppu.presented = s.ppu.presented) ∧
    (ppuStep 65664 s).ppu.mode = .vblank ∧ (ppuStep 65664 s).ppu.ly = 144 ∧ (ppuStep 65664 s).ppu.dots = 0 ∧
      (ppuStep 65664 s).ppu.presented.length = s.ppu.presented.length + 1 ∧
      ((ppuStep 65664 s).ifl = if s.ie.getLsbD 0 then s.ifl ||| 0x01 else s.ifl)

/-- A rendered pixel: the topmost sprite that shows there (the lowest index), in the object palette its attribute
selects; where none shows, or sprites are off, the background's: its entry in the background palette, and with LCDC.0 = 0
`SHADE_RGB[0]` (60_exceptions.md R348-R353; 92_eei_decisions.md D33, which the model follows there, log 24). -/
def Obligations.RenderedPixelIsTopmostSpriteOrBackground : Prop :=
  ∀ (s : State) (ly x : Nat), ly < 144 → x < 160 →
    (s.ppu.lcdc.getLsbD 1 = true → ∀ i, i < 40 → s.spriteShows i ly x → (∀ j, j < i → ¬ s.spriteShows j ly x) →
      (s.renderLine ly).ppu.pixel ly x =
        (if (s.sprite i).attr.getLsbD 4 then s.ppu.objPal1 else s.ppu.objPal0).entry (s.spriteAt i ly x)) ∧
    ((s.ppu.lcdc.getLsbD 1 = false ∨ ∀ i, i < 40 → ¬ s.spriteShows i ly x) →
      (s.renderLine ly).ppu.pixel ly x =
        if s.ppu.lcdc.getLsbD 0 then s.ppu.bgPal.entry (s.bgAt ly x) else s.params.shade 0)

/-- The tile cache is the decode of VRAM in every state, so after every write: two bits per pixel, the second plane the
high bit, bit 7 the leftmost column (20_memory.md R83, R67; 10_state.md R42). -/
def Obligations.TileCacheIsVramDecode : Prop :=
  ∀ (s : State) (t y x : Nat), t < 384 → y < 8 → x < 8 →
    (s.tilePixel t y x).toNat =
      2 * ((s.stored (BitVec.ofNat 16 (0x8000 + 16 * t + 2 * y + 1))).toNat / 2 ^ (7 - x) % 2) +
        (s.stored (BitVec.ofNat 16 (0x8000 + 16 * t + 2 * y))).toNat / 2 ^ (7 - x) % 2

/-- Rendering a line writes that line of the framebuffer and the background indexes, and nothing else (60_exceptions.md
R354). -/
def Obligations.RenderWritesOneLine : Prop :=
  ∀ (s : State) (ly : Nat),
    let t := s.renderLine ly
    t = { s with ppu := { s.ppu with fb := t.ppu.fb, bgidx := t.ppu.bgidx } } ∧
      (∀ y x, y ≠ ly → t.ppu.pixel y x = s.ppu.pixel y x) ∧
      ∀ x, x < 160 → t.ppu.bgidx.getD x 0 = s.bgAt ly x

/-! ## The bus -/

/-- Every address is in exactly one region, the one whose range of the map holds it (20_memory.md R61). -/
def Obligations.RegionsPartitionAddressSpace : Prop :=
  ∀ a : Word, ∃ r, region a = some r ∧
    (r = .rom ↔ a.toNat ≤ 0x7FFF) ∧ (r = .vramTiles ↔ 0x8000 ≤ a.toNat ∧ a.toNat ≤ 0x97FF) ∧
    (r = .vramMaps ↔ 0x9800 ≤ a.toNat ∧ a.toNat ≤ 0x9FFF) ∧ (r = .eram ↔ 0xA000 ≤ a.toNat ∧ a.toNat ≤ 0xBFFF) ∧
    (r = .wram ↔ 0xC000 ≤ a.toNat ∧ a.toNat ≤ 0xDFFF) ∧ (r = .mirror ↔ 0xE000 ≤ a.toNat ∧ a.toNat ≤ 0xFDFF) ∧
    (r = .oam ↔ 0xFE00 ≤ a.toNat ∧ a.toNat ≤ 0xFEFF) ∧ (r = .io ↔ 0xFF00 ≤ a.toNat ∧ a.toNat ≤ 0xFF7F) ∧
    (r = .hram ↔ 0xFF80 ≤ a.toNat ∧ a.toNat ≤ 0xFFFE) ∧ (r = .ie ↔ a.toNat = 0xFFFF)

/-- What a byte read answers, address by address, and that only a joypad read and a read of `RANDOM_ADDR` change the state,
by the draw they take; the ROM beyond the image faults (20_memory.md R62, R64, R66, R68-R72, R75, R77, R79-R81). -/
def Obligations.ByteReadByRegion : Prop :=
  ∀ (s : State) (a : Word), s.params.legal = true →
    (a.toNat < 0x8000 → a.toNat < s.romSize → read8 a s = .ok (s.rom.read a.toNat) s) ∧
    (a.toNat < 0x8000 → s.romSize ≤ a.toNat →
      read8 a s = .raised (.romReadBeyondImage a) { s with fault := some (.romReadBeyondImage a) }) ∧
    (0x8000 ≤ a.toNat → a.toNat < 0xE000 → read8 a s = .ok (s.mem.read a.toNat) s) ∧
    (0xE000 ≤ a.toNat → a.toNat < 0xFE00 → read8 a s = .ok (s.mem.read (a.toNat - 0x2000)) s) ∧
    (0xFE00 ≤ a.toNat → a.toNat < 0xFF00 → read8 a s = .ok (s.mem.read a.toNat) s) ∧
    (a = 0xFF00 → ∃ k : BitVec 4,
      (∀ b, b < 4 → k.getLsbD b =
        (((s.mem.read 0xFF00).getLsbD 4 || (Config.hostDir s.joypadDraws).getLsbD b) &&
          ((s.mem.read 0xFF00).getLsbD 5 || (Config.hostAct s.joypadDraws).getLsbD b))) ∧
      read8 a s = .ok (0xC0 ||| (s.mem.read 0xFF00 &&& 0x30) ||| k.setWidth 8)
        { s with joypadDraws := s.joypadDraws + 1 }) ∧
    (a = s.params.randomAddr → read8 a s = .ok (Config.hostRnd s.rndDraws) { s with rndDraws := s.rndDraws + 1 }) ∧
    (a = 0xFF0F → read8 a s = .ok s.ifl s) ∧ (a = 0xFF40 → read8 a s = .ok s.ppu.lcdc s) ∧
    (a = 0xFF42 → read8 a s = .ok s.ppu.scy s) ∧ (a = 0xFF43 → read8 a s = .ok s.ppu.scx s) ∧
    (a = 0xFF47 → read8 a s = .ok s.ppu.bgp s) ∧ (a = 0xFF48 → read8 a s = .ok s.ppu.obp0 s) ∧
    (a = 0xFF49 → read8 a s = .ok s.ppu.obp1 s) ∧
    (0xFF01 ≤ a.toNat → a.toNat < 0xFF80 → a ≠ s.params.randomAddr →
      a.toNat ∉ [0xFF0F, 0xFF40, 0xFF42, 0xFF43, 0xFF47, 0xFF48, 0xFF49] →
      read8 a s = .ok (s.mem.read a.toNat) s) ∧
    (0xFF80 ≤ a.toNat → a.toNat < 0xFFFF → read8 a s = .ok (s.mem.read a.toNat) s) ∧
    (a = 0xFFFF → read8 a s = .ok s.ie s)

/-- What a byte write changes, address by address, the DMA trigger apart: nothing in the ROM region, else the one byte
(through the mirror the byte of working RAM), a palette with its four entries (20_memory.md R63, R65-R71, R73, R74, R78,
R80, R81; 10_state.md R41). -/
def Obligations.ByteWriteByRegion : Prop :=
  ∀ (s : State) (a : Word) (v : Byte),
    (a.toNat < 0x8000 → write8 a v s = .ok () s) ∧
    (0x8000 ≤ a.toNat → a.toNat < 0xE000 → write8 a v s = .ok () { s with mem := s.mem.write a.toNat v }) ∧
    (0xE000 ≤ a.toNat → a.toNat < 0xFE00 → write8 a v s = .ok () { s with mem := s.mem.write (a.toNat - 0x2000) v }) ∧
    (0xFE00 ≤ a.toNat → a.toNat < 0xFF00 → write8 a v s = .ok () { s with mem := s.mem.write a.toNat v }) ∧
    (a = 0xFF0F → write8 a v s = .ok () { s with ifl := v }) ∧
    (a = 0xFF40 → write8 a v s = .ok () { s with ppu := { s.ppu with lcdc := v } }) ∧
    (a = 0xFF42 → write8 a v s = .ok () { s with ppu := { s.ppu with scy := v } }) ∧
    (a = 0xFF43 → write8 a v s = .ok () { s with ppu := { s.ppu with scx := v } }) ∧
    (a = 0xFF47 → write8 a v s = .ok () { s with ppu := { s.ppu with bgp := v, bgPal := decodePalette s.params v } }) ∧
    (a = 0xFF48 → write8 a v s = .ok () { s with ppu := { s.ppu with obp0 := v, objPal0 := decodePalette s.params v } }) ∧
    (a = 0xFF49 → write8 a v s = .ok () { s with ppu := { s.ppu with obp1 := v, objPal1 := decodePalette s.params v } }) ∧
    (0xFF00 ≤ a.toNat → a.toNat < 0xFF80 →
      a.toNat ∉ [0xFF0F, 0xFF40, 0xFF42, 0xFF43, 0xFF46, 0xFF47, 0xFF48, 0xFF49] →
      write8 a v s = .ok () { s with mem := s.mem.write a.toNat v }) ∧
    (0xFF80 ≤ a.toNat → a.toNat < 0xFFFF → write8 a v s = .ok () { s with mem := s.mem.write a.toNat v }) ∧
    (a = 0xFFFF → write8 a v s = .ok () { s with ie := v })

/-- A write of `v` to 0xFF46 stores the byte and copies the 160 bytes of page `v` to the object table, each as a bus read
gives it, leaving every other byte; where a source byte lies beyond the image it faults with the first such address
(20_memory.md R76). -/
def Obligations.DmaCopiesPageToObjectTable : Prop :=
  ∀ (s : State) (v : Byte),
    ((∀ i, i < 160 → s.readable (BitVec.ofNat 16 (256 * v.toNat + i))) →
      ∃ t, write8 0xFF46 v s = .ok () t ∧ t.stored 0xFF46 = v ∧
        (∀ i, i < 160 → t.stored (BitVec.ofNat 16 (0xFE00 + i)) =
          { s with mem := s.mem.write 0xFF46 v }.readValue (BitVec.ofNat 16 (256 * v.toNat + i))) ∧
        (∀ b : Word, b ≠ 0xFF46 → ¬ inObjectTable b → t.stored b = s.stored b) ∧
        t = { s with mem := t.mem, joypadDraws := t.joypadDraws, rndDraws := t.rndDraws }) ∧
    ∀ n, n < 160 → (∀ i, i < n → s.readable (BitVec.ofNat 16 (256 * v.toNat + i))) →
      ¬ s.readable (BitVec.ofNat 16 (256 * v.toNat + n)) →
      ∃ t, write8 0xFF46 v s = .raised (.romReadBeyondImage (BitVec.ofNat 16 (256 * v.toNat + n))) t

/-- A word stored where both bytes are plain storage is read back, and lies low byte first (20_memory.md R84, R85,
R86). -/
def Obligations.WordStoreReadsBack : Prop :=
  ∀ (s : State) (a v : Word), 0x8000 ≤ a.toNat → a.toNat + 1 < 0xFF00 ∨ (0xFF80 ≤ a.toNat ∧ a.toNat < 0xFFFF) →
    ∃ t, write16 a v s = .ok () t ∧ t.stored a = lowByte v ∧ t.stored (a + 1) = highByte v ∧ read16 a t = .ok v t

/-- PUSH and then POP of the same pair restore the pair and SP where the two stack bytes read back; AF too, its low nibble
being 0 (40_load.md R120, R121, R144-R147). -/
def Obligations.PushThenPopRestores : Prop :=
  ∀ (q : StackPair) (s : State), (∀ b, b = s.regs.sp - 2 ∨ b = s.regs.sp - 1 →
      0x8000 ≤ b.toNat ∧ b ≠ 0xFF00 ∧ b ≠ s.params.randomAddr) →
    s.writable16 (s.regs.sp - 2) (s.stackPair q) →
    ∃ t u, exec (.ofPush q) s = .next t ∧ exec (.ofPop q) t = .next u ∧ u.stackPair q = s.stackPair q ∧
      u.regs.sp = s.regs.sp

/-- CALL and then RET resume after the CALL, with SP restored, where the two stack bytes read back (43_control.md R226,
R228). -/
def Obligations.CallThenReturnResumes : Prop :=
  ∀ (a : Word) (s : State), (∀ b, b = s.regs.sp - 2 ∨ b = s.regs.sp - 1 →
      0x8000 ≤ b.toNat ∧ b ≠ 0xFF00 ∧ b ≠ s.params.randomAddr) →
    s.writable16 (s.regs.sp - 2) s.regs.pc →
    ∃ t u, exec (.call_a16 a) s = .next t ∧ t.regs.pc = a ∧ exec .ret t = .next u ∧ u.regs = s.regs

/-! ## Loads and stores -/

/-- LD r,r' (49 forms) and LD r,d8 (7 forms): the destination takes the value, the flags and everything else stand, costs 4
and 8 (40_load.md R122, R123). -/
def Obligations.LoadRegisterFromRegisterOrByte : Prop :=
  (∀ (dst src : Reg8) (s : State),
    encode (.ofLd (.reg dst) (.reg src)) = [opByte (64 + 8 * regField dst + regField src)] ∧
    ∃ t, exec (.ofLd (.reg dst) (.reg src)) s = .next t ∧
    t.reg8 dst = s.reg8 src ∧ KeepsReg8 [dst] s t ∧ KeepsFSpPc s t ∧ t.cost = 4 ∧ OnlyRegs s t) ∧
  ∀ (dst : Reg8) (n : Byte) (s : State), encode (.ofLdImm (.reg dst) n) = [opByte (8 * regField dst + 6), n] ∧
    ∃ t, exec (.ofLdImm (.reg dst) n) s = .next t ∧
    t.reg8 dst = n ∧ KeepsReg8 [dst] s t ∧ KeepsFSpPc s t ∧ t.cost = 8 ∧ OnlyRegs s t

/-- LD r,(HL) (7 forms): the destination takes the byte at HL as it was before the write, cost 8 (40_load.md R124). -/
def Obligations.LoadRegisterFromHL : Prop :=
  ∀ (dst : Reg8) (s : State), encode (.ofLd (.reg dst) .atHL) = [opByte (64 + 8 * regField dst + 6)] ∧
    (s.readable s.hl → ∃ t, exec (.ofLd (.reg dst) .atHL) s = .next t ∧
      t.reg8 dst = s.readValue s.hl ∧ KeepsReg8 [dst] s t ∧ KeepsFSpPc s t ∧ t.cost = 8 ∧
      OnlyRegs (s.drawn s.hl) t)

/-- LD A,(BC); LD A,(DE); LD A,(a16); LDH A,(a8); LD A,(C); LD A,(HL+); LD A,(HL-): A takes the byte at the address; the
last two also step HL (40_load.md R127, R128, R131, R133, R135, R139, R140). -/
def Obligations.AccumulatorLoads : Prop :=
  ∀ (s : State) (n : Byte) (w : Word),
    (∀ i bytes a c, (i, bytes, a, c) ∈ [(Instr.ld_A_atBC, ([0x0A] : List Byte), s.bc, 8), (.ld_A_atDE, [0x1A], s.de, 8),
        (.ld_A_atA16 w, [0xFA, lowByte w, highByte w], w, 16), (.ldh_A_atA8 n, [0xF0, n], 0xFF00 + n.setWidth 16, 12),
        (.ld_A_atC, [0xF2], 0xFF00 + s.regs.c.setWidth 16, 8)] → encode i = bytes ∧
      (s.readable a → ∃ t, exec i s = .next t ∧ t.regs.a = s.readValue a ∧ KeepsReg8 [.a] s t ∧ KeepsFSpPc s t ∧
        t.cost = c ∧ OnlyRegs (s.drawn a) t)) ∧
    ∀ i bytes step, (i, bytes, step) ∈ [(Instr.ld_A_atHLInc, ([0x2A] : List Byte), (1 : Word)),
        (.ld_A_atHLDec, [0x3A], 0xFFFF)] → encode i = bytes ∧
      (s.readable s.hl → ∃ t, exec i s = .next t ∧ t.regs.a = s.readValue s.hl ∧ t.hl = s.hl + step ∧
        KeepsReg8 [.a, .h, .l] s t ∧ KeepsFSpPc s t ∧ t.cost = 8 ∧ OnlyRegs (s.drawn s.hl) t)

/-- LD (HL),r (7 forms); LD (HL),d8; LD (BC),A; LD (DE),A; LD (a16),A; LDH (a8),A; LD (C),A; LD (HL+),A; LD (HL-),A: the byte
is written to the address computed before anything changes, no register changes but HL by the last two, and memory changes
as `Stored` says (40_load.md R125, R126, R129, R130, R132, R134, R136, R137, R138). -/
def Obligations.ByteStores : Prop :=
  ∀ (s : State) (r : Reg8) (n : Byte) (w : Word),
    (∀ i bytes a v c, (i, bytes, a, v, c) ∈ [
        (Instr.ofLd .atHL (.reg r), [opByte (112 + regField r)], s.hl, s.reg8 r, 8),
        (.ld_atHL_d8 n, [0x36, n], s.hl, n, 12), (.ld_atBC_A, [0x02], s.bc, s.regs.a, 8),
        (.ld_atDE_A, [0x12], s.de, s.regs.a, 8), (.ld_atA16_A w, [0xEA, lowByte w, highByte w], w, s.regs.a, 16),
        (.ldh_atA8_A n, [0xE0, n], 0xFF00 + n.setWidth 16, s.regs.a, 12),
        (.ld_atC_A, [0xE2], 0xFF00 + s.regs.c.setWidth 16, s.regs.a, 8)] → encode i = bytes ∧
      (s.writable a v → ∃ t, exec i s = .next t ∧ Stored s a v t ∧ t.regs = s.regs ∧ t.cost = c)) ∧
    ∀ i bytes step, (i, bytes, step) ∈ [(Instr.ld_atHLInc_A, ([0x22] : List Byte), (1 : Word)),
        (.ld_atHLDec_A, [0x32], 0xFFFF)] → encode i = bytes ∧
      (s.writable s.hl s.regs.a → ∃ t, exec i s = .next t ∧ Stored s s.hl s.regs.a t ∧ t.hl = s.hl + step ∧
        KeepsReg8 [.h, .l] s t ∧ KeepsFSpPc s t ∧ t.cost = 8)

/-- LD (a16),SP: SP's low byte to the address, its high byte to the next, no register changes, cost 20 (40_load.md
R142). -/
def Obligations.StoreStackPointer : Prop :=
  ∀ (a : Word) (s : State), encode (.ld_atA16_SP a) = [0x08, lowByte a, highByte a] ∧
    (s.writable16 a s.regs.sp →
      ∃ t, exec (.ld_atA16_SP a) s = .next t ∧ Stored16 s a s.regs.sp t ∧ t.regs = s.regs ∧ t.cost = 20)

/-- LD rr,d16 (4 forms) and LD SP,HL: the pair takes the value, costs 12 and 8 (40_load.md R141, R143). -/
def Obligations.LoadPairs : Prop :=
  encode .ld_SP_HL = [0xF9] ∧
  (∀ (p : Pair) (v : Word) (s : State),
    encode (.ofLdPairImm p v) = [opByte (16 * pairField p + 1), lowByte v, highByte v] ∧
    ∃ t, exec (.ofLdPairImm p v) s = .next t ∧ t.pair p = v ∧
    KeepsReg8 (pairParts p) s t ∧ (p ≠ .sp → t.regs.sp = s.regs.sp) ∧ t.regs.f = s.regs.f ∧ t.regs.pc = s.regs.pc ∧
    t.cost = 12 ∧ OnlyRegs s t) ∧
  ∀ s : State, ∃ t, exec .ld_SP_HL s = .next t ∧ t.regs = { s.regs with sp := s.hl } ∧ t.cost = 8 ∧ OnlyRegs s t

/-- PUSH rr (4 forms): SP two lower, the pair stored there low byte first, no other register changed, cost 16; the low byte
pushed for AF has a zero low nibble (40_load.md R120, R144, R145). -/
def Obligations.PushStoresPair : Prop :=
  (∀ q : StackPair, encode (.ofPush q) = [opByte (197 + 16 * stackField q)]) ∧
  (∀ (q : StackPair) (s : State), s.writable16 (s.regs.sp - 2) (s.stackPair q) →
    ∃ t, exec (.ofPush q) s = .next t ∧ Stored16 s (s.regs.sp - 2) (s.stackPair q) t ∧
      t.regs = { s.regs with sp := s.regs.sp - 2 } ∧ t.cost = 16) ∧
  ∀ s : State, s.stackPair .bc = wordOf s.regs.b s.regs.c ∧ s.stackPair .de = wordOf s.regs.d s.regs.e ∧
    s.stackPair .hl = wordOf s.regs.h s.regs.l ∧ highByte (s.stackPair .af) = s.regs.a ∧
    lowByte (s.stackPair .af) = s.regs.f &&& 0xF0

/-- POP rr (4 forms): the pair takes the word at SP, SP two higher, cost 12; POP AF writes all four flags from bits 7 to 4 of
the popped low byte and drops bits 3 to 0, the other forms leave F (40_load.md R121, R146, R147). -/
def Obligations.PopLoadsPair : Prop :=
  (∀ q : StackPair, encode (.ofPop q) = [opByte (193 + 16 * stackField q)]) ∧
  ∀ (q : StackPair) (s : State), s.readable16 s.regs.sp →
    let v := s.readValue16 s.regs.sp
    ∃ t, exec (.ofPop q) s = .next t ∧
      (q ≠ .af → t.stackPair q = v ∧ t.regs.f = s.regs.f) ∧
      (q = .af → t.regs.a = highByte v ∧ FlagsAre t (v.getLsbD 7) (v.getLsbD 6) (v.getLsbD 5) (v.getLsbD 4)) ∧
      KeepsReg8 (stackPairParts q) s t ∧ t.regs.sp = s.regs.sp + 2 ∧ t.regs.pc = s.regs.pc ∧ t.cost = 12 ∧
      OnlyRegs (s.drawn16 s.regs.sp) t

/-! ## 8-bit arithmetic and logic -/

/-- ADD and ADC, with a register (7 forms each), an immediate or the byte at HL: A takes the sum modulo 256, Z from the
truncated result, N clear, H the carry out of bit 3, C the carry out of bit 7; ADC adds F.C (41_alu8.md R160,
R162-R167). -/
def Obligations.AdditionsWriteSumAndCarries : Prop :=
  ∀ (o : AluOp), o = .add ∨ o = .adc → ∀ s : State,
    (∀ r, encode (.ofAlu o (.reg r)) = [opByte (128 + 8 * aluField o + regField r)] ∧
      AluRuns (.ofAlu o (.reg r)) o (s.reg8 r) 4 s s) ∧
    (∀ n, encode (.ofAluImm o n) = [opByte (198 + 8 * aluField o), n] ∧ AluRuns (.ofAluImm o n) o n 8 s s) ∧
    encode (.ofAlu o .atHL) = [opByte (134 + 8 * aluField o)] ∧
    (s.readable s.hl → AluRuns (.ofAlu o .atHL) o (s.readValue s.hl) 8 s (s.drawn s.hl))

/-- SUB, SBC and CP in all their forms: the difference modulo 256 (CP writes no result), N set, H the borrow from bit 4, C
the borrow out of bit 7; SBC subtracts F.C (41_alu8.md R161, R168-R173, R183-R185). -/
def Obligations.SubtractionsWriteDifferenceAndBorrows : Prop :=
  ∀ (o : AluOp), o = .sub ∨ o = .sbc ∨ o = .cp → ∀ s : State,
    (∀ r, encode (.ofAlu o (.reg r)) = [opByte (128 + 8 * aluField o + regField r)] ∧
      AluRuns (.ofAlu o (.reg r)) o (s.reg8 r) 4 s s) ∧
    (∀ n, encode (.ofAluImm o n) = [opByte (198 + 8 * aluField o), n] ∧ AluRuns (.ofAluImm o n) o n 8 s s) ∧
    encode (.ofAlu o .atHL) = [opByte (134 + 8 * aluField o)] ∧
    (s.readable s.hl → AluRuns (.ofAlu o .atHL) o (s.readValue s.hl) 8 s (s.drawn s.hl))

/-- AND, XOR and OR in all their forms: Z from the result, N and C clear, H set by AND alone (41_alu8.md R174-R182). -/
def Obligations.LogicWritesResultAndZero : Prop :=
  ∀ (o : AluOp), o = .and ∨ o = .xor ∨ o = .or → ∀ s : State,
    (∀ r, encode (.ofAlu o (.reg r)) = [opByte (128 + 8 * aluField o + regField r)] ∧
      AluRuns (.ofAlu o (.reg r)) o (s.reg8 r) 4 s s) ∧
    (∀ n, encode (.ofAluImm o n) = [opByte (198 + 8 * aluField o), n] ∧ AluRuns (.ofAluImm o n) o n 8 s s) ∧
    encode (.ofAlu o .atHL) = [opByte (134 + 8 * aluField o)] ∧
    (s.readable s.hl → AluRuns (.ofAlu o .atHL) o (s.readValue s.hl) 8 s (s.drawn s.hl))

/-- INC r and DEC r (7 forms each): the register one more or less modulo 256, Z from the result, N by the operation, H from
the low nibble, C unchanged, cost 4 (41_alu8.md R186, R188). -/
def Obligations.IncDecRegister : Prop :=
  ∀ (dst : Reg8) (s : State),
    let v := (s.reg8 dst).toNat
    encode (.ofInc8 (.reg dst)) = [opByte (8 * regField dst + 4)] ∧
    encode (.ofDec8 (.reg dst)) = [opByte (8 * regField dst + 5)] ∧
    (∃ t, exec (.ofInc8 (.reg dst)) s = .next t ∧ (t.reg8 dst).toNat = (v + 1) % 256 ∧
      FlagsAre t (decide (v = 255)) false (decide (v % 16 = 15)) s.flagC ∧ KeepsReg8 [dst] s t ∧ KeepsSpPc s t ∧
      t.cost = 4 ∧ OnlyRegs s t) ∧
    ∃ t, exec (.ofDec8 (.reg dst)) s = .next t ∧ (t.reg8 dst).toNat = (v + 255) % 256 ∧
      FlagsAre t (decide (v = 1)) true (decide (v % 16 = 0)) s.flagC ∧ KeepsReg8 [dst] s t ∧ KeepsSpPc s t ∧
      t.cost = 4 ∧ OnlyRegs s t

/-- INC (HL) and DEC (HL): the byte at HL is read, then written one more or less; the flags come from the byte read, also
where the write is a no-op; no register but F changes, cost 12 (41_alu8.md R187, R189). -/
def Obligations.IncDecAtHL : Prop :=
  encode .inc_atHL = [0x34] ∧ encode .dec_atHL = [0x35] ∧
  ∀ s : State, s.readable s.hl →
    let v := s.readValue s.hl
    (s.writable s.hl (v + 1) → ∃ t, exec .inc_atHL s = .next t ∧ Stored (s.drawn s.hl) s.hl (v + 1) t ∧
      FlagsAre t (decide (v.toNat = 255)) false (decide (v.toNat % 16 = 15)) s.flagC ∧
      t.regs = { s.regs with f := t.regs.f } ∧ t.cost = 12) ∧
    (s.writable s.hl (v - 1) → ∃ t, exec .dec_atHL s = .next t ∧ Stored (s.drawn s.hl) s.hl (v - 1) t ∧
      FlagsAre t (decide (v.toNat = 1)) true (decide (v.toNat % 16 = 0)) s.flagC ∧
      t.regs = { s.regs with f := t.regs.f } ∧ t.cost = 12)

/-- RLCA, RRCA, RLA, RRA: A rotated, Z, N and H clear whatever the result, C the bit shifted out; CPL, SCF, CCF: the flags
each documents, the others kept; each costs 4 (41_alu8.md R190-R193, R195-R197). -/
def Obligations.AccumulatorRotatesAndFlagOps : Prop :=
  encode .cpl = [0x2F] ∧ encode .scf = [0x37] ∧ encode .ccf = [0x3F] ∧
  ∀ s : State,
    (∀ i b o, (i, b, o) ∈ [(Instr.rlca, (0x07 : Byte), RotOp.rlc), (.rrca, 0x0F, .rrc), (.rla, 0x17, .rl),
        (.rra, 0x1F, .rr)] → encode i = [b] ∧ ∃ t, exec i s = .next t ∧ t.regs.a.toNat = rotValue o s.regs.a.toNat s.flagC.toNat ∧
        FlagsAre t false false false (rotOut o s.regs.a.toNat) ∧ KeepsReg8 [.a] s t ∧ KeepsSpPc s t ∧ t.cost = 4 ∧
        OnlyRegs s t) ∧
    (∃ t, exec .cpl s = .next t ∧ t.regs.a.toNat = 255 - s.regs.a.toNat ∧ FlagsAre t s.flagZ true true s.flagC ∧
      KeepsReg8 [.a] s t ∧ KeepsSpPc s t ∧ t.cost = 4 ∧ OnlyRegs s t) ∧
    (∃ t, exec .scf s = .next t ∧ FlagsAre t s.flagZ false false true ∧ KeepsReg8 [] s t ∧ KeepsSpPc s t ∧ t.cost = 4 ∧
      OnlyRegs s t) ∧
    ∃ t, exec .ccf s = .next t ∧ FlagsAre t s.flagZ false false (!s.flagC) ∧ KeepsReg8 [] s t ∧ KeepsSpPc s t ∧
      t.cost = 4 ∧ OnlyRegs s t

/-- DAA for every A and every flag combination: the adjustment by N, H, C and A as it was, Z from the result, H clear, C
raised only after an addition, N kept, cost 4 (41_alu8.md R194). -/
def Obligations.DecimalAdjustByFlags : Prop :=
  encode .daa = [0x27] ∧
  ∀ s : State,
    let a := s.regs.a.toNat
    let low := if s.flagH = true ∨ (s.flagN = false ∧ a % 16 > 9) then 0x06 else 0
    let c := s.flagC || (!s.flagN && decide (a > 0x99))
    let adj := low + if c then 0x60 else 0
    let r := if s.flagN then (a + 256 - adj) % 256 else (a + adj) % 256
    ∃ t, exec .daa s = .next t ∧ t.regs.a.toNat = r ∧ FlagsAre t (decide (r = 0)) s.flagN false c ∧
      KeepsReg8 [.a] s t ∧ KeepsSpPc s t ∧ t.cost = 4 ∧ OnlyRegs s t

/-- ADD of two packed decimal bytes followed by DAA is decimal addition: A holds the sum of the two numbers modulo 100 and C
is set exactly where it passes 99 (41_alu8.md R164, R194). -/
def Obligations.AddThenDecimalAdjustIsDecimalAddition : Prop :=
  ∀ (s : State) (m n : Nat), m < 100 → n < 100 → s.regs.a.toNat = 16 * (m / 10) + m % 10 →
    ∃ t u, exec (.add_A_d8 (BitVec.ofNat 8 (16 * (n / 10) + n % 10))) s = .next t ∧ exec .daa t = .next u ∧
      u.regs.a.toNat = 16 * ((m + n) % 100 / 10) + (m + n) % 10 ∧ u.flagC = decide (m + n ≥ 100) ∧
      u.flagZ = decide ((m + n) % 100 = 0)

/-! ## 16-bit arithmetic -/

/-- INC rr and DEC rr (4 forms each): the pair one more or less modulo 2^16, no flag written, cost 8 (42_alu16.md R210,
R211). -/
def Obligations.IncDecPair : Prop :=
  ∀ (p : Pair) (s : State),
    encode (.ofIncPair p) = [opByte (16 * pairField p + 3)] ∧ encode (.ofDecPair p) = [opByte (16 * pairField p + 11)] ∧
    (∃ t, exec (.ofIncPair p) s = .next t ∧ (t.pair p).toNat = ((s.pair p).toNat + 1) % 65536 ∧
      KeepsReg8 (pairParts p) s t ∧ (p ≠ .sp → t.regs.sp = s.regs.sp) ∧ t.regs.f = s.regs.f ∧ t.regs.pc = s.regs.pc ∧
      t.cost = 8 ∧ OnlyRegs s t) ∧
    ∃ t, exec (.ofDecPair p) s = .next t ∧ (t.pair p).toNat = ((s.pair p).toNat + 65535) % 65536 ∧
      KeepsReg8 (pairParts p) s t ∧ (p ≠ .sp → t.regs.sp = s.regs.sp) ∧ t.regs.f = s.regs.f ∧ t.regs.pc = s.regs.pc ∧
      t.cost = 8 ∧ OnlyRegs s t

/-- ADD HL,rr (4 forms): the sum modulo 2^16, Z kept, N clear, H and C from bits 11 and 15. ADD SP,e8 and LD HL,SP+e8: SP plus
the signed offset, Z and N clear, H and C from the unsigned sum of SP's low byte and the offset byte (42_alu16.md R212,
R213, R214; 90_conflicts.md C4). -/
def Obligations.SixteenBitAdditions : Prop :=
  ∀ (s : State) (p : Pair) (e : Byte),
    let hl := s.hl.toNat
    let v := (s.pair p).toNat
    let sp := s.regs.sp.toNat
    let half := decide (sp % 16 + e.toNat % 16 > 15)
    let carry := decide (sp % 256 + e.toNat > 255)
    encode (.ofAddHL p) = [opByte (16 * pairField p + 9)] ∧ encode (.add_SP_e8 e) = [0xE8, e] ∧
    encode (.ld_HL_SPe8 e) = [0xF8, e] ∧
    (∃ t, exec (.ofAddHL p) s = .next t ∧ t.hl.toNat = (hl + v) % 65536 ∧
      FlagsAre t s.flagZ false (decide (hl % 4096 + v % 4096 > 4095)) (decide (hl + v > 65535)) ∧
      KeepsReg8 [.h, .l] s t ∧ KeepsSpPc s t ∧ t.cost = 8 ∧ OnlyRegs s t) ∧
    (∃ t, exec (.add_SP_e8 e) s = .next t ∧ (t.regs.sp.toNat : Int) = ((sp : Int) + e.toInt) % 65536 ∧
      FlagsAre t false false half carry ∧ KeepsReg8 [] s t ∧ t.regs.pc = s.regs.pc ∧ t.cost = 16 ∧ OnlyRegs s t) ∧
    ∃ t, exec (.ld_HL_SPe8 e) s = .next t ∧ (t.hl.toNat : Int) = ((sp : Int) + e.toInt) % 65536 ∧
      FlagsAre t false false half carry ∧ KeepsReg8 [.h, .l] s t ∧ KeepsSpPc s t ∧ t.cost = 12 ∧ OnlyRegs s t

/-! ## Jumps, calls, returns -/

/-- JP a16, JP (HL), JR e8 and the conditional JP cc,a16 and JR cc,e8 (4 forms each): PC takes the target where the condition
holds and stands where it does not, each with its cost, and nothing else changes; the conditions read Z and C
(43_control.md R220-R225). -/
def Obligations.Jumps : Prop :=
  ∀ (s : State) (cc : Cond) (a : Word) (e : Byte),
    let target := BitVec.ofInt 16 ((s.regs.pc.toNat : Int) + e.toInt)
    let holds := match cc with
      | .nz => !s.regs.f.getLsbD 7
      | .z => s.regs.f.getLsbD 7
      | .nc => !s.regs.f.getLsbD 4
      | .c => s.regs.f.getLsbD 4
    ∀ i bytes pc c, (i, bytes, pc, c) ∈ [(Instr.jp_a16 a, ([0xC3, lowByte a, highByte a] : List Byte), a, 16),
        (.jp_atHL, [0xE9], s.hl, 4), (.jr_e8 e, [0x18, e], target, 12),
        (.ofJp cc a, [opByte (194 + 8 * condField cc), lowByte a, highByte a], if holds then a else s.regs.pc,
          if holds then 16 else 12),
        (.ofJr cc e, [opByte (32 + 8 * condField cc), e], if holds then target else s.regs.pc,
          if holds then 12 else 8)] → encode i = bytes ∧ ∃ t, exec i s = .next t ∧ t.regs = { s.regs with pc := pc } ∧ t.cost = c ∧ OnlyRegs s t

/-- CALL a16, RST t (8 forms) and CALL cc,a16 (4 forms) where the condition holds: the address after the instruction is
pushed, PC takes the target, no other register changes; where it does not hold nothing changes and the cost is 12
(43_control.md R226, R227, R231). -/
def Obligations.CallsPushReturnAddress : Prop :=
  ∀ (s : State) (cc : Cond) (a : Word) (k : Fin 8),
    encode (.call_a16 a) = [0xCD, lowByte a, highByte a] ∧ encode (.ofRst k) = [opByte (199 + 8 * k.val)] ∧
    encode (.ofCall cc a) = [opByte (196 + 8 * condField cc), lowByte a, highByte a] ∧
    (s.writable16 (s.regs.sp - 2) s.regs.pc →
      ∀ i pc c, ((i, pc, c) ∈ [(Instr.call_a16 a, a, 24), (.ofRst k, BitVec.ofNat 16 (8 * k.val), 16)] ∨
          (s.cond cc = true ∧ (i, pc, c) = (.ofCall cc a, a, 24))) →
        ∃ t, exec i s = .next t ∧ Stored16 s (s.regs.sp - 2) s.regs.pc t ∧
          t.regs = { s.regs with sp := s.regs.sp - 2, pc := pc } ∧ t.cost = c) ∧
    (s.cond cc = false → ∃ t, exec (.ofCall cc a) s = .next t ∧ t.regs = s.regs ∧ t.cost = 12 ∧ OnlyRegs s t)

/-- RET, RET cc (4 forms) where the condition holds, and RETI: PC takes the word at SP, SP two higher, nothing else changes,
but for IME set by RETI; RET cc where the condition does not hold reads nothing and costs 8 (43_control.md R228, R229, R230;
60_exceptions.md R317). -/
def Obligations.ReturnsPopPc : Prop :=
  encode .ret = [0xC9] ∧ encode .reti = [0xD9] ∧
  ∀ (s : State) (cc : Cond), encode (.ofRet cc) = [opByte (192 + 8 * condField cc)] ∧
    (s.readable16 s.regs.sp →
      ∀ i c ime, ((i, c, ime) ∈ [(Instr.ret, 16, s.ime), (.reti, 16, true)] ∨
          (s.cond cc = true ∧ (i, c, ime) = (.ofRet cc, 20, s.ime))) →
        ∃ t, exec i s = .next t ∧ t.regs = { s.regs with sp := s.regs.sp + 2, pc := s.readValue16 s.regs.sp } ∧
          t.cost = c ∧ OnlyRegs { s.drawn16 s.regs.sp with ime := ime } t) ∧
    (s.cond cc = false → ∃ t, exec (.ofRet cc) s = .next t ∧ t.regs = s.regs ∧ t.cost = 8 ∧ OnlyRegs s t)

/-! ## System instructions -/

/-- NOP changes nothing; DI and EI write IME at once; HALT sets `halted` where IME is set or no enabled source is pending;
each costs 4 (44_system.md R240, R241, R243, R244). -/
def Obligations.SystemInstructions : Prop :=
  encode .nop = [0x00] ∧ encode .di = [0xF3] ∧ encode .ei = [0xFB] ∧ encode .halt = [0x76] ∧
  ∀ s : State,
    exec .nop s = .next { s with cost := 4 } ∧
    exec .di s = .next { s with ime := false, cost := 4 } ∧
    exec .ei s = .next { s with ime := true, cost := 4 } ∧
    ((s.ime = true ∨ s.ie &&& s.ifl &&& 0x1F = 0) → exec .halt s = .next { s with halted := true, cost := 4 })

/-- What stops the machine: STOP, the eleven undefined values, and HALT with IME clear and an enabled source pending; each
raises its fault with PC as it stands, past the first byte, and changes nothing else (44_system.md R241, R242, R245;
60_exceptions.md R301 F1, F4, F5). That the decoder takes STOP's second byte with it, whatever it is, is DEDUCED (log 15). -/
def Obligations.StopsRaiseTheirFault : Prop :=
  (∀ x : Byte, decode [0x10, x] = .ok (.stop, [])) ∧
  ∀ s : State,
    exec .stop s = .fault (.raised (.stopUnmodelled s.regs.pc) { s with fault := some (.stopUnmodelled s.regs.pc) }) ∧
    (∀ i op, (i, op) ∈ [(Instr.undefined_D3, (0xD3 : Byte)), (.undefined_DB, 0xDB), (.undefined_DD, 0xDD),
        (.undefined_E3, 0xE3), (.undefined_E4, 0xE4), (.undefined_EB, 0xEB), (.undefined_EC, 0xEC), (.undefined_ED, 0xED),
        (.undefined_F4, 0xF4), (.undefined_FC, 0xFC), (.undefined_FD, 0xFD)] →
      encode i = [op] ∧ exec i s = .fault (.raised (.undefinedOpcode op s.regs.pc)
        { s with fault := some (.undefinedOpcode op s.regs.pc) })) ∧
    (s.ime = false → s.ie &&& s.ifl &&& 0x1F ≠ 0 →
      exec .halt s = .fault (.raised (.haltBugUnmodelled s.regs.pc)
        { s with fault := some (.haltBugUnmodelled s.regs.pc) }))

/-! ## The extended table -/

/-- The prefix row runs as the extended entry its byte selects, for every byte; with a register operand it completes always,
with (HL) where the byte can be read and any byte written back (44_system.md R246; 45_cb_bitops.md R250). -/
def Obligations.PrefixRunsExtendedEntry : Prop :=
  ∀ (x : Byte) (s : State),
    exec (.prefix_CB x) s = exec (decodeExtended x) s ∧
    (x.toNat % 8 ≠ 6 → ∃ t, exec (.prefix_CB x) s = .next t ∧ t.cost = 8) ∧
    (x.toNat % 8 = 6 → s.readable s.hl → (∀ v, s.writable s.hl v) →
      ∃ t, exec (.prefix_CB x) s = .next t ∧ t.cost = if x.toNat / 64 = 1 then 12 else 16)

/-- RLC, RRC, RL, RR, SLA, SRA, SWAP and SRL of a register (7 forms each) and of the byte at HL: the result, Z from it, N and H
clear, C the bit shifted out; costs 8 and 16 (45_cb_bitops.md R251-R266). -/
def Obligations.ExtendedRotatesAndShifts : Prop :=
  (∀ (o : RotOp) (r : Reg8) (s : State),
    let v := (s.reg8 r).toNat
    encode (.ofRot o (.reg r)) = [0xCB, opByte (8 * rotField o + regField r)] ∧ ∃ t, exec (.ofRot o (.reg r)) s = .next t ∧ (t.reg8 r).toNat = rotValue o v s.flagC.toNat ∧
      FlagsAre t (decide (rotValue o v s.flagC.toNat = 0)) false false (rotOut o v) ∧ KeepsReg8 [r] s t ∧
      KeepsSpPc s t ∧ t.cost = 8 ∧ OnlyRegs s t) ∧
  (∀ o : RotOp, encode (.ofRot o .atHL) = [0xCB, opByte (8 * rotField o + 6)]) ∧
  ∀ (o : RotOp) (s : State), s.readable s.hl →
    let v := (s.readValue s.hl).toNat
    let w := BitVec.ofNat 8 (rotValue o v s.flagC.toNat)
    s.writable s.hl w →
    ∃ t, exec (.ofRot o .atHL) s = .next t ∧ Stored (s.drawn s.hl) s.hl w t ∧
      FlagsAre t (decide (rotValue o v s.flagC.toNat = 0)) false false (rotOut o v) ∧
      t.regs = { s.regs with f := t.regs.f } ∧ t.cost = 16

/-- BIT b of a register (56 forms) and of the byte at HL (8 forms): Z the complement of the bit, N clear, H set, C kept, the
operand not written; costs 8 and 12 (45_cb_bitops.md R267, R268). -/
def Obligations.BitTestsWriteZeroFlag : Prop :=
  (∀ (b : Fin 8) (r : Reg8) (s : State),
    encode (.ofBit b (.reg r)) = [0xCB, opByte (64 + 8 * b.val + regField r)] ∧
    ∃ t, exec (.ofBit b (.reg r)) s = .next t ∧
    FlagsAre t (decide ((s.reg8 r).toNat / 2 ^ b.val % 2 = 0)) false true s.flagC ∧ KeepsReg8 [] s t ∧ KeepsSpPc s t ∧
    t.cost = 8 ∧ OnlyRegs s t) ∧
  (∀ b : Fin 8, encode (.ofBit b .atHL) = [0xCB, opByte (70 + 8 * b.val)]) ∧
  ∀ (b : Fin 8) (s : State), s.readable s.hl → ∃ t, exec (.ofBit b .atHL) s = .next t ∧
    FlagsAre t (decide ((s.readValue s.hl).toNat / 2 ^ b.val % 2 = 0)) false true s.flagC ∧ KeepsReg8 [] s t ∧
    KeepsSpPc s t ∧ t.cost = 12 ∧ OnlyRegs (s.drawn s.hl) t

/-- RES b and SET b of a register (56 forms each) and of the byte at HL (8 forms each): that bit cleared or set, the others and
the flags kept; costs 8 and 16 (45_cb_bitops.md R269-R272). -/
def Obligations.BitResetsAndSets : Prop :=
  ∀ (b : Fin 8) (s : State) (x : Bool),
    let f : Operand8 → Instr := fun r => if x then .ofSet b r else .ofRes b r
    let base := if x then 192 else 128
    encode (f .atHL) = [0xCB, opByte (base + 8 * b.val + 6)] ∧
    (∀ r : Reg8, encode (f (.reg r)) = [0xCB, opByte (base + 8 * b.val + regField r)] ∧ ∃ t, exec (f (.reg r)) s = .next t ∧ BitMade b x (s.reg8 r) (t.reg8 r) ∧ KeepsReg8 [r] s t ∧
      KeepsFSpPc s t ∧ t.cost = 8 ∧ OnlyRegs s t) ∧
    (s.readable s.hl → ∀ w, BitMade b x (s.readValue s.hl) w → s.writable s.hl w →
      ∃ t, exec (f .atHL) s = .next t ∧ Stored (s.drawn s.hl) s.hl w t ∧ t.regs = s.regs ∧ t.cost = 16)

/-! ## Where the bus accesses of an instruction fault -/

/-- Every form that reads an operand faults with that operand's address, before anything else of it, where the address lies
in the ROM region at or beyond the image length; a pop whose second byte does so faults with the second byte's address
(20_memory.md R64; 60_exceptions.md R301 F3, R302, R303; "Faults: reads only" of 40_load.md to 45_cb_bitops.md). -/
def Obligations.OperandReadsFaultBeyondImage : Prop :=
  ∀ (s : State) (dst : Reg8) (o : AluOp) (r : RotOp) (b : Fin 8) (q : StackPair) (cc : Cond) (w : Word),
    (∀ i a, (i, a) ∈ [(Instr.ofLd (.reg dst) .atHL, s.hl), (.ld_A_atBC, s.bc), (.ld_A_atDE, s.de), (.ld_A_atA16 w, w),
        (.ld_A_atHLInc, s.hl), (.ld_A_atHLDec, s.hl), (.ofAlu o .atHL, s.hl), (.inc_atHL, s.hl), (.dec_atHL, s.hl),
        (.ofRot r .atHL, s.hl), (.ofBit b .atHL, s.hl), (.ofRes b .atHL, s.hl), (.ofSet b .atHL, s.hl),
        (.ofPop q, s.regs.sp), (.ret, s.regs.sp), (.reti, s.regs.sp)] ∨
        (s.cond cc = true ∧ (i, a) = (.ofRet cc, s.regs.sp)) →
      ¬ s.readable a →
      exec i s = .fault (.raised (.romReadBeyondImage a) { s with fault := some (.romReadBeyondImage a) })) ∧
    ∀ i, (i ∈ [Instr.ofPop q, .ret, .reti] ∨ (s.cond cc = true ∧ i = .ofRet cc)) →
      s.readable s.regs.sp → ¬ s.readable (s.regs.sp + 1) →
      exec i s = .fault (.raised (.romReadBeyondImage (s.regs.sp + 1))
        { s.drawn s.regs.sp with fault := some (.romReadBeyondImage (s.regs.sp + 1)) })

/-- Every form that writes faults where its write starts a DMA copy from beyond the image, with the address of a source byte
that cannot be read; so does an interrupt service whose push does (20_memory.md R76; 60_exceptions.md R301 F3, R314). -/
def Obligations.OperandWritesFaultInDma : Prop :=
  ∀ (s : State) (r : Reg8) (n : Byte) (w : Word) (q : StackPair) (cc : Cond) (k : Fin 8) (o : RotOp) (b : Fin 8) (x : Bool),
    let faults : Instr → Prop := fun i => ∃ a t, ¬ s.readable a ∧ exec i s = .fault (.raised (.romReadBeyondImage a) t)
    (∀ i a v, (i, a, v) ∈ [(Instr.ofLd .atHL (.reg r), s.hl, s.reg8 r), (.ld_atHL_d8 n, s.hl, n), (.ld_atBC_A, s.bc, s.regs.a),
        (.ld_atDE_A, s.de, s.regs.a), (.ld_atA16_A w, w, s.regs.a), (.ldh_atA8_A n, 0xFF00 + n.setWidth 16, s.regs.a),
        (.ld_atC_A, 0xFF00 + s.regs.c.setWidth 16, s.regs.a), (.ld_atHLInc_A, s.hl, s.regs.a), (.ld_atHLDec_A, s.hl, s.regs.a),
        (.inc_atHL, s.hl, s.readValue s.hl + 1), (.dec_atHL, s.hl, s.readValue s.hl - 1),
        (.ofRot o .atHL, s.hl, BitVec.ofNat 8 (rotValue o (s.readValue s.hl).toNat s.flagC.toNat))] →
      ¬ s.writable a v → faults i) ∧
    (∀ v, BitMade b x (s.readValue s.hl) v → ¬ s.writable s.hl v → faults (if x then .ofSet b .atHL else .ofRes b .atHL)) ∧
    (∀ i a v, (i, a, v) ∈ [(Instr.ld_atA16_SP w, w, s.regs.sp), (.ofPush q, s.regs.sp - 2, s.stackPair q),
        (.call_a16 w, s.regs.sp - 2, s.regs.pc), (.ofRst k, s.regs.sp - 2, s.regs.pc)] ∨
        (s.cond cc = true ∧ (i, a, v) = (.ofCall cc w, s.regs.sp - 2, s.regs.pc)) →
      ¬ s.writable16 a v → faults i) ∧
    (s.ime = true → s.pending ≠ 0 → ¬ s.writable16 (s.regs.sp - 2) s.regs.pc →
      ∃ a t, ¬ s.readable a ∧ irqStep s = .raised (.romReadBeyondImage a) t)
end

