-- ==== Sys2Proof/Laws/Memory.lean ====
section
/-! SUPPORT. The laws of sparse tables and of memory: read after write, and the canonical form kept. -/

namespace Sys2Proof.Machine

variable {α : Type}

theorem Sparse.get_erase_same (z : α) (m : List (Nat × α)) (a : Nat) : Sparse.get z (Sparse.erase m a) a = z := by
  induction m with
  | nil => rfl
  | cons c t ih =>
    by_cases h : c.1 = a
    · simpa [Sparse.erase, h] using ih
    · simpa [Sparse.erase, Sparse.get, h] using ih

theorem Sparse.get_erase_ne (z : α) (m : List (Nat × α)) {a b : Nat} (hb : b ≠ a) :
    Sparse.get z (Sparse.erase m a) b = Sparse.get z m b := by
  induction m with
  | nil => rfl
  | cons c t ih =>
    by_cases h : c.1 = a
    · have : c.1 ≠ b := by omega
      simpa [Sparse.erase, Sparse.get, h, hb.symm] using ih
    · by_cases hcb : c.1 = b
      · simp [Sparse.erase, Sparse.get, hcb, hb]
      · simpa [Sparse.erase, Sparse.get, h, hcb] using ih

theorem Sparse.get_insert_same (z : α) (m : List (Nat × α)) (a : Nat) (v : α) (h : ∀ c ∈ m, c.1 ≠ a) :
    Sparse.get z (Sparse.insert m a v) a = v := by
  induction m with
  | nil => simp [Sparse.insert, Sparse.get]
  | cons c t ih =>
    have hc : c.1 ≠ a := h c (by simp)
    unfold Sparse.insert
    split
    · simp [Sparse.get]
    · simp [Sparse.get, hc, ih fun e he => h e (by simp [he])]

theorem Sparse.get_insert_ne (z : α) (m : List (Nat × α)) {a b : Nat} (v : α) (hb : b ≠ a) :
    Sparse.get z (Sparse.insert m a v) b = Sparse.get z m b := by
  induction m with
  | nil => simp [Sparse.insert, Sparse.get, hb.symm]
  | cons c t ih =>
    unfold Sparse.insert
    split
    · simp [Sparse.get, hb.symm]
    · simp [Sparse.get, ih]

theorem Sparse.mem_erase (m : List (Nat × α)) (a : Nat) (c : Nat × α) :
    c ∈ Sparse.erase m a ↔ c ∈ m ∧ c.1 ≠ a := by simp [Sparse.erase]

theorem Sparse.mem_insert (m : List (Nat × α)) (a : Nat) (v : α) (c : Nat × α) :
    c ∈ Sparse.insert m a v ↔ c = (a, v) ∨ c ∈ m := by
  induction m with
  | nil => simp [Sparse.insert]
  | cons e t ih =>
    unfold Sparse.insert
    split
    · simp
    · simp only [List.mem_cons, ih]
      tauto

theorem Sparse.pairwise_insert (m : List (Nat × α)) (a : Nat) (v : α)
    (hm : m.Pairwise fun c e => c.1 < e.1) (ha : ∀ c ∈ m, c.1 ≠ a) :
    (Sparse.insert m a v).Pairwise fun c e => c.1 < e.1 := by
  induction m with
  | nil => simp [Sparse.insert]
  | cons c t ih =>
    have hc : c.1 ≠ a := ha c (by simp)
    rw [List.pairwise_cons] at hm
    unfold Sparse.insert
    split
    · next hlt =>
      rw [List.pairwise_cons, List.pairwise_cons]
      refine ⟨fun e he => ?_, hm⟩
      rcases List.mem_cons.1 he with rfl | he
      · exact hlt
      · exact hlt.trans (hm.1 e he)
    · next hlt =>
      rw [List.pairwise_cons]
      refine ⟨fun e he => ?_, ih hm.2 fun e he => ha e (by simp [he])⟩
      rcases (Sparse.mem_insert t a v e).1 he with rfl | he
      · show c.1 < a
        omega
      · exact hm.1 e he

variable [DecidableEq α]

/-- The read of the index just written. -/
theorem Sparse.get_set_same (z : α) (m : List (Nat × α)) (a : Nat) (v : α) :
    Sparse.get z (Sparse.set z m a v) a = v := by
  unfold Sparse.set
  split
  · next h => rw [h]; exact Sparse.get_erase_same z m a
  · exact Sparse.get_insert_same z _ a v fun c hc => ((Sparse.mem_erase m a c).1 hc).2

/-- A write leaves every other index alone. -/
theorem Sparse.get_set_ne (z : α) (m : List (Nat × α)) {a b : Nat} (v : α) (hb : b ≠ a) :
    Sparse.get z (Sparse.set z m a v) b = Sparse.get z m b := by
  unfold Sparse.set
  split
  · exact Sparse.get_erase_ne z m hb
  · rw [Sparse.get_insert_ne z _ v hb, Sparse.get_erase_ne z m hb]

/-- What a table lists after a write. -/
theorem Sparse.mem_set (z : α) (m : List (Nat × α)) (a : Nat) (v : α) (c : Nat × α)
    (h : c ∈ Sparse.set z m a v) : c = (a, v) ∨ c ∈ m := by
  unfold Sparse.set at h
  split at h
  · exact .inr ((Sparse.mem_erase m a c).1 h).1
  · exact ((Sparse.mem_insert _ a v c).1 h).imp id fun h => ((Sparse.mem_erase m a c).1 h).1

/-- Every write keeps the canonical form. -/
theorem Sparse.wf_set (z : α) (m : List (Nat × α)) (a : Nat) (v : α) (hm : Sparse.wf z m) :
    Sparse.wf z (Sparse.set z m a v) := by
  have he : (Sparse.erase m a).Pairwise fun c e => c.1 < e.1 := hm.1.filter _
  refine ⟨?_, fun c hc => ?_⟩
  · unfold Sparse.set
    split
    · exact he
    · exact Sparse.pairwise_insert _ a v he fun c hc => ((Sparse.mem_erase m a c).1 hc).2
  · by_cases hv : v = z
    · rw [Sparse.set, if_pos hv] at hc
      exact hm.2 c ((Sparse.mem_erase m a c).1 hc).1
    · rcases Sparse.mem_set z m a v c hc with rfl | hc
      · exact hv
      · exact hm.2 c hc

/-- Equal tables are equal data: canonical tables that read alike everywhere are the same list. -/
theorem Sparse.ext (z : α) (m n : List (Nat × α)) (hm : Sparse.wf z m) (hn : Sparse.wf z n)
    (h : ∀ a, Sparse.get z m a = Sparse.get z n a) : m = n := by
  have low : ∀ (l : List (Nat × α)) (a : Nat), (∀ c ∈ l, a < c.1) → Sparse.get z l a = z := by
    intro l a hl
    induction l with
    | nil => rfl
    | cons c t ih =>
      have : c.1 ≠ a := by have := hl c (by simp); omega
      simp [Sparse.get, this, ih fun e he => hl e (by simp [he])]
  induction m generalizing n with
  | nil =>
    cases n with
    | nil => rfl
    | cons c t => exact absurd (by simpa [Sparse.get] using (h c.1).symm) (hn.2 c (by simp))
  | cons c t ih =>
    cases n with
    | nil => exact absurd (by simpa [Sparse.get] using h c.1) (hm.2 c (by simp))
    | cons e u =>
      have hm1 := List.pairwise_cons.1 hm.1
      have hn1 := List.pairwise_cons.1 hn.1
      have hce : c.1 = e.1 := by
        by_contra hne
        rcases Nat.lt_or_gt_of_ne hne with hlt | hlt
        · refine hm.2 c (by simp) ?_
          rw [show c.2 = Sparse.get z (c :: t) c.1 by simp [Sparse.get], h]
          refine low _ _ fun f hf => ?_
          rcases List.mem_cons.1 hf with rfl | hf
          · exact hlt
          · exact hlt.trans (hn1.1 f hf)
        · refine hn.2 e (by simp) ?_
          rw [show e.2 = Sparse.get z (e :: u) e.1 by simp [Sparse.get], ← h]
          refine low _ _ fun f hf => ?_
          rcases List.mem_cons.1 hf with rfl | hf
          · exact hlt
          · exact hlt.trans (hm1.1 f hf)
      have hv : c.2 = e.2 := by simpa [Sparse.get, hce] using h c.1
      have htu : t = u := by
        refine ih u ⟨hm1.2, fun f hf => hm.2 f (by simp [hf])⟩ ⟨hn1.2, fun f hf => hn.2 f (by simp [hf])⟩ fun a => ?_
        by_cases ha : a = c.1
        · rw [low t a fun f hf => by have := hm1.1 f hf; omega, low u a fun f hf => by have := hn1.1 f hf; omega]
        · have := h a
          simpa [Sparse.get, Ne.symm ha, hce ▸ Ne.symm ha] using this
      rw [htu, show c = e from Prod.ext hce hv]

/-! ## Memory -/

@[simp] theorem Memory.read_nil (a : Nat) : Memory.read [] a = 0 := rfl

@[simp] theorem Memory.read_write_same (m : Memory) (a : Nat) (v : Byte) : (m.write a v).read a = v :=
  Sparse.get_set_same _ m a v

theorem Memory.read_write_ne (m : Memory) {a b : Nat} (v : Byte) (h : b ≠ a) : (m.write a v).read b = m.read b :=
  Sparse.get_set_ne _ m v h

theorem Memory.read_write (m : Memory) (a b : Nat) (v : Byte) :
    (m.write a v).read b = if b = a then v else m.read b := by
  split
  · next h => rw [h, Memory.read_write_same]
  · next h => exact Memory.read_write_ne m v h

theorem Memory.wf_nil : Memory.wf [] := by simp [Memory.wf, Sparse.wf]

theorem Memory.wf_write (m : Memory) (a : Nat) (v : Byte) (h : m.wf) : (m.write a v).wf :=
  Sparse.wf_set _ m a v h

theorem Memory.mem_write (m : Memory) (a : Nat) (v : Byte) (c : Host.Cell) (h : c ∈ m.write a v) :
    c = (a, v) ∨ c ∈ m := Sparse.mem_set _ m a v c h

/-- Equal memories are equal data. -/
theorem Memory.ext (m n : Memory) (hm : m.wf) (hn : n.wf) (h : ∀ a, m.read a = n.read a) : m = n :=
  Sparse.ext _ m n hm hn h

/-- The memories after reset are canonical. -/
theorem Memory.wf_reset : State.reset.mem.wf ∧ State.reset.rom.wf :=
  ⟨Memory.wf_nil, Memory.wf_nil⟩

end Sys2Proof.Machine
end

