-- ==== Sys2Proof/Laws/State.lean ====
section
/-! SUPPORT. What each named update of the state leaves in each field, and what the register reads see after it. -/

namespace Sys2Proof.Machine


/-! ## `State.setReg8` -/

@[simp] theorem setReg8_ime (s : State) (dst : Reg8) (v : Byte) : (s.setReg8 dst v).ime = s.ime := by cases dst <;> rfl
@[simp] theorem setReg8_halted (s : State) (dst : Reg8) (v : Byte) : (s.setReg8 dst v).halted = s.halted := by cases dst <;> rfl
@[simp] theorem setReg8_fault (s : State) (dst : Reg8) (v : Byte) : (s.setReg8 dst v).fault = s.fault := by cases dst <;> rfl
@[simp] theorem setReg8_ie (s : State) (dst : Reg8) (v : Byte) : (s.setReg8 dst v).ie = s.ie := by cases dst <;> rfl
@[simp] theorem setReg8_ifl (s : State) (dst : Reg8) (v : Byte) : (s.setReg8 dst v).ifl = s.ifl := by cases dst <;> rfl
@[simp] theorem setReg8_rom (s : State) (dst : Reg8) (v : Byte) : (s.setReg8 dst v).rom = s.rom := by cases dst <;> rfl
@[simp] theorem setReg8_romSize (s : State) (dst : Reg8) (v : Byte) : (s.setReg8 dst v).romSize = s.romSize := by cases dst <;> rfl
@[simp] theorem setReg8_cartType (s : State) (dst : Reg8) (v : Byte) : (s.setReg8 dst v).cartType = s.cartType := by cases dst <;> rfl
@[simp] theorem setReg8_mem (s : State) (dst : Reg8) (v : Byte) : (s.setReg8 dst v).mem = s.mem := by cases dst <;> rfl
@[simp] theorem setReg8_ppu (s : State) (dst : Reg8) (v : Byte) : (s.setReg8 dst v).ppu = s.ppu := by cases dst <;> rfl
@[simp] theorem setReg8_totalCycles (s : State) (dst : Reg8) (v : Byte) : (s.setReg8 dst v).totalCycles = s.totalCycles := by cases dst <;> rfl
@[simp] theorem setReg8_params (s : State) (dst : Reg8) (v : Byte) : (s.setReg8 dst v).params = s.params := by cases dst <;> rfl
@[simp] theorem setReg8_cost (s : State) (dst : Reg8) (v : Byte) : (s.setReg8 dst v).cost = s.cost := by cases dst <;> rfl
@[simp] theorem setReg8_joypadDraws (s : State) (dst : Reg8) (v : Byte) : (s.setReg8 dst v).joypadDraws = s.joypadDraws := by cases dst <;> rfl
@[simp] theorem setReg8_rndDraws (s : State) (dst : Reg8) (v : Byte) : (s.setReg8 dst v).rndDraws = s.rndDraws := by cases dst <;> rfl
@[simp] theorem setReg8_stored (s : State) (dst : Reg8) (v : Byte) (b : Word) : (s.setReg8 dst v).stored b = s.stored b := by cases dst <;> rfl
@[simp] theorem setReg8_regs_f (s : State) (dst : Reg8) (v : Byte) : (s.setReg8 dst v).regs.f = s.regs.f := by cases dst <;> rfl
@[simp] theorem setReg8_regs_sp (s : State) (dst : Reg8) (v : Byte) : (s.setReg8 dst v).regs.sp = s.regs.sp := by cases dst <;> rfl
@[simp] theorem setReg8_regs_pc (s : State) (dst : Reg8) (v : Byte) : (s.setReg8 dst v).regs.pc = s.regs.pc := by cases dst <;> rfl

/-! ## `State.setHL` -/

@[simp] theorem setHL_ime (s : State) (v : Word) : (s.setHL v).ime = s.ime := rfl
@[simp] theorem setHL_halted (s : State) (v : Word) : (s.setHL v).halted = s.halted := rfl
@[simp] theorem setHL_fault (s : State) (v : Word) : (s.setHL v).fault = s.fault := rfl
@[simp] theorem setHL_ie (s : State) (v : Word) : (s.setHL v).ie = s.ie := rfl
@[simp] theorem setHL_ifl (s : State) (v : Word) : (s.setHL v).ifl = s.ifl := rfl
@[simp] theorem setHL_rom (s : State) (v : Word) : (s.setHL v).rom = s.rom := rfl
@[simp] theorem setHL_romSize (s : State) (v : Word) : (s.setHL v).romSize = s.romSize := rfl
@[simp] theorem setHL_cartType (s : State) (v : Word) : (s.setHL v).cartType = s.cartType := rfl
@[simp] theorem setHL_mem (s : State) (v : Word) : (s.setHL v).mem = s.mem := rfl
@[simp] theorem setHL_ppu (s : State) (v : Word) : (s.setHL v).ppu = s.ppu := rfl
@[simp] theorem setHL_totalCycles (s : State) (v : Word) : (s.setHL v).totalCycles = s.totalCycles := rfl
@[simp] theorem setHL_params (s : State) (v : Word) : (s.setHL v).params = s.params := rfl
@[simp] theorem setHL_cost (s : State) (v : Word) : (s.setHL v).cost = s.cost := rfl
@[simp] theorem setHL_joypadDraws (s : State) (v : Word) : (s.setHL v).joypadDraws = s.joypadDraws := rfl
@[simp] theorem setHL_rndDraws (s : State) (v : Word) : (s.setHL v).rndDraws = s.rndDraws := rfl
@[simp] theorem setHL_stored (s : State) (v : Word) (b : Word) : (s.setHL v).stored b = s.stored b := rfl
@[simp] theorem setHL_regs_a (s : State) (v : Word) : (s.setHL v).regs.a = s.regs.a := rfl
@[simp] theorem setHL_regs_f (s : State) (v : Word) : (s.setHL v).regs.f = s.regs.f := rfl
@[simp] theorem setHL_regs_b (s : State) (v : Word) : (s.setHL v).regs.b = s.regs.b := rfl
@[simp] theorem setHL_regs_c (s : State) (v : Word) : (s.setHL v).regs.c = s.regs.c := rfl
@[simp] theorem setHL_regs_d (s : State) (v : Word) : (s.setHL v).regs.d = s.regs.d := rfl
@[simp] theorem setHL_regs_e (s : State) (v : Word) : (s.setHL v).regs.e = s.regs.e := rfl
@[simp] theorem setHL_regs_sp (s : State) (v : Word) : (s.setHL v).regs.sp = s.regs.sp := rfl
@[simp] theorem setHL_regs_pc (s : State) (v : Word) : (s.setHL v).regs.pc = s.regs.pc := rfl

/-! ## `State.setPair` -/

@[simp] theorem setPair_ime (s : State) (p : Pair) (v : Word) : (s.setPair p v).ime = s.ime := by cases p <;> rfl
@[simp] theorem setPair_halted (s : State) (p : Pair) (v : Word) : (s.setPair p v).halted = s.halted := by cases p <;> rfl
@[simp] theorem setPair_fault (s : State) (p : Pair) (v : Word) : (s.setPair p v).fault = s.fault := by cases p <;> rfl
@[simp] theorem setPair_ie (s : State) (p : Pair) (v : Word) : (s.setPair p v).ie = s.ie := by cases p <;> rfl
@[simp] theorem setPair_ifl (s : State) (p : Pair) (v : Word) : (s.setPair p v).ifl = s.ifl := by cases p <;> rfl
@[simp] theorem setPair_rom (s : State) (p : Pair) (v : Word) : (s.setPair p v).rom = s.rom := by cases p <;> rfl
@[simp] theorem setPair_romSize (s : State) (p : Pair) (v : Word) : (s.setPair p v).romSize = s.romSize := by cases p <;> rfl
@[simp] theorem setPair_cartType (s : State) (p : Pair) (v : Word) : (s.setPair p v).cartType = s.cartType := by cases p <;> rfl
@[simp] theorem setPair_mem (s : State) (p : Pair) (v : Word) : (s.setPair p v).mem = s.mem := by cases p <;> rfl
@[simp] theorem setPair_ppu (s : State) (p : Pair) (v : Word) : (s.setPair p v).ppu = s.ppu := by cases p <;> rfl
@[simp] theorem setPair_totalCycles (s : State) (p : Pair) (v : Word) : (s.setPair p v).totalCycles = s.totalCycles := by cases p <;> rfl
@[simp] theorem setPair_params (s : State) (p : Pair) (v : Word) : (s.setPair p v).params = s.params := by cases p <;> rfl
@[simp] theorem setPair_cost (s : State) (p : Pair) (v : Word) : (s.setPair p v).cost = s.cost := by cases p <;> rfl
@[simp] theorem setPair_joypadDraws (s : State) (p : Pair) (v : Word) : (s.setPair p v).joypadDraws = s.joypadDraws := by cases p <;> rfl
@[simp] theorem setPair_rndDraws (s : State) (p : Pair) (v : Word) : (s.setPair p v).rndDraws = s.rndDraws := by cases p <;> rfl
@[simp] theorem setPair_stored (s : State) (p : Pair) (v : Word) (b : Word) : (s.setPair p v).stored b = s.stored b := by cases p <;> rfl
@[simp] theorem setPair_regs_f (s : State) (p : Pair) (v : Word) : (s.setPair p v).regs.f = s.regs.f := by cases p <;> rfl
@[simp] theorem setPair_regs_a (s : State) (p : Pair) (v : Word) : (s.setPair p v).regs.a = s.regs.a := by cases p <;> rfl
@[simp] theorem setPair_regs_pc (s : State) (p : Pair) (v : Word) : (s.setPair p v).regs.pc = s.regs.pc := by cases p <;> rfl

/-! ## `State.setStackPair` -/

@[simp] theorem setStackPair_ime (s : State) (q : StackPair) (v : Word) : (s.setStackPair q v).ime = s.ime := by cases q <;> rfl
@[simp] theorem setStackPair_halted (s : State) (q : StackPair) (v : Word) : (s.setStackPair q v).halted = s.halted := by cases q <;> rfl
@[simp] theorem setStackPair_fault (s : State) (q : StackPair) (v : Word) : (s.setStackPair q v).fault = s.fault := by cases q <;> rfl
@[simp] theorem setStackPair_ie (s : State) (q : StackPair) (v : Word) : (s.setStackPair q v).ie = s.ie := by cases q <;> rfl
@[simp] theorem setStackPair_ifl (s : State) (q : StackPair) (v : Word) : (s.setStackPair q v).ifl = s.ifl := by cases q <;> rfl
@[simp] theorem setStackPair_rom (s : State) (q : StackPair) (v : Word) : (s.setStackPair q v).rom = s.rom := by cases q <;> rfl
@[simp] theorem setStackPair_romSize (s : State) (q : StackPair) (v : Word) : (s.setStackPair q v).romSize = s.romSize := by cases q <;> rfl
@[simp] theorem setStackPair_cartType (s : State) (q : StackPair) (v : Word) : (s.setStackPair q v).cartType = s.cartType := by cases q <;> rfl
@[simp] theorem setStackPair_mem (s : State) (q : StackPair) (v : Word) : (s.setStackPair q v).mem = s.mem := by cases q <;> rfl
@[simp] theorem setStackPair_ppu (s : State) (q : StackPair) (v : Word) : (s.setStackPair q v).ppu = s.ppu := by cases q <;> rfl
@[simp] theorem setStackPair_totalCycles (s : State) (q : StackPair) (v : Word) : (s.setStackPair q v).totalCycles = s.totalCycles := by cases q <;> rfl
@[simp] theorem setStackPair_params (s : State) (q : StackPair) (v : Word) : (s.setStackPair q v).params = s.params := by cases q <;> rfl
@[simp] theorem setStackPair_cost (s : State) (q : StackPair) (v : Word) : (s.setStackPair q v).cost = s.cost := by cases q <;> rfl
@[simp] theorem setStackPair_joypadDraws (s : State) (q : StackPair) (v : Word) : (s.setStackPair q v).joypadDraws = s.joypadDraws := by cases q <;> rfl
@[simp] theorem setStackPair_rndDraws (s : State) (q : StackPair) (v : Word) : (s.setStackPair q v).rndDraws = s.rndDraws := by cases q <;> rfl
@[simp] theorem setStackPair_stored (s : State) (q : StackPair) (v : Word) (b : Word) : (s.setStackPair q v).stored b = s.stored b := by cases q <;> rfl
@[simp] theorem setStackPair_regs_sp (s : State) (q : StackPair) (v : Word) : (s.setStackPair q v).regs.sp = s.regs.sp := by cases q <;> rfl
@[simp] theorem setStackPair_regs_pc (s : State) (q : StackPair) (v : Word) : (s.setStackPair q v).regs.pc = s.regs.pc := by cases q <;> rfl

/-! ## `State.setPC` -/

@[simp] theorem setPC_ime (s : State) (a : Word) : (s.setPC a).ime = s.ime := rfl
@[simp] theorem setPC_halted (s : State) (a : Word) : (s.setPC a).halted = s.halted := rfl
@[simp] theorem setPC_fault (s : State) (a : Word) : (s.setPC a).fault = s.fault := rfl
@[simp] theorem setPC_ie (s : State) (a : Word) : (s.setPC a).ie = s.ie := rfl
@[simp] theorem setPC_ifl (s : State) (a : Word) : (s.setPC a).ifl = s.ifl := rfl
@[simp] theorem setPC_rom (s : State) (a : Word) : (s.setPC a).rom = s.rom := rfl
@[simp] theorem setPC_romSize (s : State) (a : Word) : (s.setPC a).romSize = s.romSize := rfl
@[simp] theorem setPC_cartType (s : State) (a : Word) : (s.setPC a).cartType = s.cartType := rfl
@[simp] theorem setPC_mem (s : State) (a : Word) : (s.setPC a).mem = s.mem := rfl
@[simp] theorem setPC_ppu (s : State) (a : Word) : (s.setPC a).ppu = s.ppu := rfl
@[simp] theorem setPC_totalCycles (s : State) (a : Word) : (s.setPC a).totalCycles = s.totalCycles := rfl
@[simp] theorem setPC_params (s : State) (a : Word) : (s.setPC a).params = s.params := rfl
@[simp] theorem setPC_cost (s : State) (a : Word) : (s.setPC a).cost = s.cost := rfl
@[simp] theorem setPC_joypadDraws (s : State) (a : Word) : (s.setPC a).joypadDraws = s.joypadDraws := rfl
@[simp] theorem setPC_rndDraws (s : State) (a : Word) : (s.setPC a).rndDraws = s.rndDraws := rfl
@[simp] theorem setPC_stored (s : State) (a : Word) (b : Word) : (s.setPC a).stored b = s.stored b := rfl
@[simp] theorem setPC_regs_a (s : State) (a : Word) : (s.setPC a).regs.a = s.regs.a := rfl
@[simp] theorem setPC_regs_f (s : State) (a : Word) : (s.setPC a).regs.f = s.regs.f := rfl
@[simp] theorem setPC_regs_b (s : State) (a : Word) : (s.setPC a).regs.b = s.regs.b := rfl
@[simp] theorem setPC_regs_c (s : State) (a : Word) : (s.setPC a).regs.c = s.regs.c := rfl
@[simp] theorem setPC_regs_d (s : State) (a : Word) : (s.setPC a).regs.d = s.regs.d := rfl
@[simp] theorem setPC_regs_e (s : State) (a : Word) : (s.setPC a).regs.e = s.regs.e := rfl
@[simp] theorem setPC_regs_h (s : State) (a : Word) : (s.setPC a).regs.h = s.regs.h := rfl
@[simp] theorem setPC_regs_l (s : State) (a : Word) : (s.setPC a).regs.l = s.regs.l := rfl
@[simp] theorem setPC_regs_sp (s : State) (a : Word) : (s.setPC a).regs.sp = s.regs.sp := rfl

/-! ## `State.writeF` -/

@[simp] theorem writeF_ime (s : State) (v : Byte) : (s.writeF v).ime = s.ime := rfl
@[simp] theorem writeF_halted (s : State) (v : Byte) : (s.writeF v).halted = s.halted := rfl
@[simp] theorem writeF_fault (s : State) (v : Byte) : (s.writeF v).fault = s.fault := rfl
@[simp] theorem writeF_ie (s : State) (v : Byte) : (s.writeF v).ie = s.ie := rfl
@[simp] theorem writeF_ifl (s : State) (v : Byte) : (s.writeF v).ifl = s.ifl := rfl
@[simp] theorem writeF_rom (s : State) (v : Byte) : (s.writeF v).rom = s.rom := rfl
@[simp] theorem writeF_romSize (s : State) (v : Byte) : (s.writeF v).romSize = s.romSize := rfl
@[simp] theorem writeF_cartType (s : State) (v : Byte) : (s.writeF v).cartType = s.cartType := rfl
@[simp] theorem writeF_mem (s : State) (v : Byte) : (s.writeF v).mem = s.mem := rfl
@[simp] theorem writeF_ppu (s : State) (v : Byte) : (s.writeF v).ppu = s.ppu := rfl
@[simp] theorem writeF_totalCycles (s : State) (v : Byte) : (s.writeF v).totalCycles = s.totalCycles := rfl
@[simp] theorem writeF_params (s : State) (v : Byte) : (s.writeF v).params = s.params := rfl
@[simp] theorem writeF_cost (s : State) (v : Byte) : (s.writeF v).cost = s.cost := rfl
@[simp] theorem writeF_joypadDraws (s : State) (v : Byte) : (s.writeF v).joypadDraws = s.joypadDraws := rfl
@[simp] theorem writeF_rndDraws (s : State) (v : Byte) : (s.writeF v).rndDraws = s.rndDraws := rfl
@[simp] theorem writeF_stored (s : State) (v : Byte) (b : Word) : (s.writeF v).stored b = s.stored b := rfl
@[simp] theorem writeF_regs_a (s : State) (v : Byte) : (s.writeF v).regs.a = s.regs.a := rfl
@[simp] theorem writeF_regs_b (s : State) (v : Byte) : (s.writeF v).regs.b = s.regs.b := rfl
@[simp] theorem writeF_regs_c (s : State) (v : Byte) : (s.writeF v).regs.c = s.regs.c := rfl
@[simp] theorem writeF_regs_d (s : State) (v : Byte) : (s.writeF v).regs.d = s.regs.d := rfl
@[simp] theorem writeF_regs_e (s : State) (v : Byte) : (s.writeF v).regs.e = s.regs.e := rfl
@[simp] theorem writeF_regs_h (s : State) (v : Byte) : (s.writeF v).regs.h = s.regs.h := rfl
@[simp] theorem writeF_regs_l (s : State) (v : Byte) : (s.writeF v).regs.l = s.regs.l := rfl
@[simp] theorem writeF_regs_sp (s : State) (v : Byte) : (s.writeF v).regs.sp = s.regs.sp := rfl
@[simp] theorem writeF_regs_pc (s : State) (v : Byte) : (s.writeF v).regs.pc = s.regs.pc := rfl

/-! ## `State.writeFlags` -/

@[simp] theorem writeFlags_ime (s : State) (z n h c : Bool) : (s.writeFlags z n h c).ime = s.ime := rfl
@[simp] theorem writeFlags_halted (s : State) (z n h c : Bool) : (s.writeFlags z n h c).halted = s.halted := rfl
@[simp] theorem writeFlags_fault (s : State) (z n h c : Bool) : (s.writeFlags z n h c).fault = s.fault := rfl
@[simp] theorem writeFlags_ie (s : State) (z n h c : Bool) : (s.writeFlags z n h c).ie = s.ie := rfl
@[simp] theorem writeFlags_ifl (s : State) (z n h c : Bool) : (s.writeFlags z n h c).ifl = s.ifl := rfl
@[simp] theorem writeFlags_rom (s : State) (z n h c : Bool) : (s.writeFlags z n h c).rom = s.rom := rfl
@[simp] theorem writeFlags_romSize (s : State) (z n h c : Bool) : (s.writeFlags z n h c).romSize = s.romSize := rfl
@[simp] theorem writeFlags_cartType (s : State) (z n h c : Bool) : (s.writeFlags z n h c).cartType = s.cartType := rfl
@[simp] theorem writeFlags_mem (s : State) (z n h c : Bool) : (s.writeFlags z n h c).mem = s.mem := rfl
@[simp] theorem writeFlags_ppu (s : State) (z n h c : Bool) : (s.writeFlags z n h c).ppu = s.ppu := rfl
@[simp] theorem writeFlags_totalCycles (s : State) (z n h c : Bool) : (s.writeFlags z n h c).totalCycles = s.totalCycles := rfl
@[simp] theorem writeFlags_params (s : State) (z n h c : Bool) : (s.writeFlags z n h c).params = s.params := rfl
@[simp] theorem writeFlags_cost (s : State) (z n h c : Bool) : (s.writeFlags z n h c).cost = s.cost := rfl
@[simp] theorem writeFlags_joypadDraws (s : State) (z n h c : Bool) : (s.writeFlags z n h c).joypadDraws = s.joypadDraws := rfl
@[simp] theorem writeFlags_rndDraws (s : State) (z n h c : Bool) : (s.writeFlags z n h c).rndDraws = s.rndDraws := rfl
@[simp] theorem writeFlags_stored (s : State) (z n h c : Bool) (b : Word) : (s.writeFlags z n h c).stored b = s.stored b := rfl
@[simp] theorem writeFlags_regs_a (s : State) (z n h c : Bool) : (s.writeFlags z n h c).regs.a = s.regs.a := rfl
@[simp] theorem writeFlags_regs_b (s : State) (z n h c : Bool) : (s.writeFlags z n h c).regs.b = s.regs.b := rfl
@[simp] theorem writeFlags_regs_c (s : State) (z n h c : Bool) : (s.writeFlags z n h c).regs.c = s.regs.c := rfl
@[simp] theorem writeFlags_regs_d (s : State) (z n h c : Bool) : (s.writeFlags z n h c).regs.d = s.regs.d := rfl
@[simp] theorem writeFlags_regs_e (s : State) (z n h c : Bool) : (s.writeFlags z n h c).regs.e = s.regs.e := rfl
@[simp] theorem writeFlags_regs_h (s : State) (z n h c : Bool) : (s.writeFlags z n h c).regs.h = s.regs.h := rfl
@[simp] theorem writeFlags_regs_l (s : State) (z n h c : Bool) : (s.writeFlags z n h c).regs.l = s.regs.l := rfl
@[simp] theorem writeFlags_regs_sp (s : State) (z n h c : Bool) : (s.writeFlags z n h c).regs.sp = s.regs.sp := rfl
@[simp] theorem writeFlags_regs_pc (s : State) (z n h c : Bool) : (s.writeFlags z n h c).regs.pc = s.regs.pc := rfl

/-! ## Reads of the registers after an update -/

@[simp] theorem setPC_pc (s : State) (a : Word) : (s.setPC a).regs.pc = a := rfl

@[simp] theorem setPC_reg8 (s : State) (a : Word) (r : Reg8) : (s.setPC a).reg8 r = s.reg8 r := by cases r <;> rfl

@[simp] theorem writeF_f (s : State) (v : Byte) : (s.writeF v).regs.f = v &&& 0xF0 := rfl

@[simp] theorem writeF_reg8 (s : State) (v : Byte) (r : Reg8) : (s.writeF v).reg8 r = s.reg8 r := by cases r <;> rfl

@[simp] theorem writeFlags_reg8 (s : State) (z n h c : Bool) (r : Reg8) : (s.writeFlags z n h c).reg8 r = s.reg8 r := by
  cases r <;> rfl

theorem setReg8_reg8 (s : State) (dst r : Reg8) (v : Byte) :
    (s.setReg8 dst v).reg8 r = if r = dst then v else s.reg8 r := by cases dst <;> cases r <;> rfl

@[simp] theorem setReg8_reg8_same (s : State) (dst : Reg8) (v : Byte) : (s.setReg8 dst v).reg8 dst = v := by
  cases dst <;> rfl

theorem setReg8_reg8_ne (s : State) (dst r : Reg8) (v : Byte) (h : r ≠ dst) :
    (s.setReg8 dst v).reg8 r = s.reg8 r := by
  simp [setReg8_reg8, h]

/-- A write of the value a register holds changes nothing. -/
theorem setReg8_self (s : State) (r : Reg8) : s.setReg8 r (s.reg8 r) = s := by cases r <;> rfl

@[simp] theorem wordOf_high_low (v : Word) : wordOf (highByte v) (lowByte v) = v := by
  apply BitVec.eq_of_getLsbD_eq
  intro i hi
  simp only [wordOf, highByte, lowByte, BitVec.getLsbD_append, BitVec.getLsbD_setWidth, BitVec.getLsbD_extractLsb']
  split
  · simp_all
  · rw [show 8 + (i - 8) = i by omega]
    simp [show i - 8 < 8 by omega]

@[simp] theorem highByte_wordOf (h l : Byte) : highByte (wordOf h l) = h := by
  apply BitVec.eq_of_getLsbD_eq
  intro i hi
  rw [wordOf, highByte, BitVec.getLsbD_extractLsb', BitVec.getLsbD_append]
  simp [hi]

@[simp] theorem lowByte_wordOf (h l : Byte) : lowByte (wordOf h l) = l := by
  apply BitVec.eq_of_getLsbD_eq
  intro i hi
  rw [wordOf, lowByte, BitVec.getLsbD_setWidth, BitVec.getLsbD_append]
  simp [hi]

/-- The word AF keeps of a value written to it (10_state.md R21, R22). -/
theorem wordOf_high_low_masked (v : Word) : wordOf (highByte v) (lowByte v &&& 0xF0) = v &&& 0xFFF0 := by
  have h : (v &&& 0xFFF0) = wordOf (highByte (v &&& 0xFFF0)) (lowByte (v &&& 0xFFF0)) := (wordOf_high_low _).symm
  have hh : highByte (v &&& 0xFFF0) = highByte v := by
    rw [highByte, highByte, BitVec.extractLsb'_and]
    exact BitVec.and_allOnes
  have hl : lowByte (v &&& 0xFFF0) = lowByte v &&& 0xF0 := by
    rw [lowByte, lowByte, BitVec.setWidth_and]
    rfl
  rw [h, hh, hl]

@[simp] theorem setHL_hl (s : State) (v : Word) : (s.setHL v).hl = v := by simp [State.hl, State.setHL]

@[simp] theorem setPair_pair (s : State) (p : Pair) (v : Word) : (s.setPair p v).pair p = v := by
  cases p <;> simp [State.pair, State.setPair, State.bc, State.de, State.hl, State.setHL]

theorem setPair_reg8 (s : State) (p : Pair) (v : Word) (r : Reg8) (h : r ∉ pairParts p) :
    (s.setPair p v).reg8 r = s.reg8 r := by
  cases p <;> cases r <;> simp_all [pairParts, State.setPair, State.reg8, State.setHL]

theorem setPair_sp (s : State) (p : Pair) (v : Word) :
    (s.setPair p v).regs.sp = if p = .sp then v else s.regs.sp := by cases p <;> rfl

theorem setStackPair_stackPair (s : State) (q : StackPair) (v : Word) :
    (s.setStackPair q v).stackPair q = if q = .af then v &&& 0xFFF0 else v := by
  cases q
  case af =>
    show wordOf (highByte v) (lowByte v &&& 0xF0 &&& 0xF0) = v &&& 0xFFF0
    rw [BitVec.and_assoc, BitVec.and_self, wordOf_high_low_masked]
  all_goals simp [State.stackPair, State.setStackPair, State.setPair, State.setHL, State.bc, State.de, State.hl]


/-! ## The flags -/

theorem packF_z (z n h c : Bool) : (packF z n h c &&& 0xF0).getLsbD 7 = z := by
  revert z n h c; decide

theorem packF_n (z n h c : Bool) : (packF z n h c &&& 0xF0).getLsbD 6 = n := by
  revert z n h c; decide

theorem packF_h (z n h c : Bool) : (packF z n h c &&& 0xF0).getLsbD 5 = h := by
  revert z n h c; decide

theorem packF_c (z n h c : Bool) : (packF z n h c &&& 0xF0).getLsbD 4 = c := by
  revert z n h c; decide

theorem packF_low (z n h c : Bool) : packF z n h c &&& 0xF0 &&& 0x0F = 0 := by
  revert z n h c; decide

/-- Every write to F leaves the low nibble 0 (10_state.md R22). -/
theorem writeF_low (s : State) (v : Byte) : (s.writeF v).regs.f &&& 0x0F = 0 := by
  simp [BitVec.and_assoc]

/-- After a write of the four flags each reads as written. -/
theorem writeF_flags (s : State) (z n h c : Bool) : FlagsAre (s.writeF (packF z n h c)) z n h c :=
  ⟨packF_z z n h c, packF_n z n h c, packF_h z n h c, packF_c z n h c, packF_low z n h c⟩

theorem writeFlags_flags (s : State) (z n h c : Bool) : FlagsAre (s.writeFlags z n h c) z n h c :=
  writeF_flags s z n h c

/-- A flag statement speaks of F alone. -/
theorem FlagsAre.of_f {s t : State} {z n h c : Bool} (hs : FlagsAre s z n h c) (hf : t.regs.f = s.regs.f) :
    FlagsAre t z n h c := by
  unfold FlagsAre State.flagZ State.flagN State.flagH State.flagC at *
  rw [hf]
  exact hs


/-! ## `State.storeMem` -/

@[simp] theorem storeMem_regs (s : State) (n : Nat) (v : Byte) : (s.storeMem n v).regs = s.regs := rfl
@[simp] theorem storeMem_ime (s : State) (n : Nat) (v : Byte) : (s.storeMem n v).ime = s.ime := rfl
@[simp] theorem storeMem_halted (s : State) (n : Nat) (v : Byte) : (s.storeMem n v).halted = s.halted := rfl
@[simp] theorem storeMem_fault (s : State) (n : Nat) (v : Byte) : (s.storeMem n v).fault = s.fault := rfl
@[simp] theorem storeMem_ie (s : State) (n : Nat) (v : Byte) : (s.storeMem n v).ie = s.ie := rfl
@[simp] theorem storeMem_ifl (s : State) (n : Nat) (v : Byte) : (s.storeMem n v).ifl = s.ifl := rfl
@[simp] theorem storeMem_rom (s : State) (n : Nat) (v : Byte) : (s.storeMem n v).rom = s.rom := rfl
@[simp] theorem storeMem_romSize (s : State) (n : Nat) (v : Byte) : (s.storeMem n v).romSize = s.romSize := rfl
@[simp] theorem storeMem_cartType (s : State) (n : Nat) (v : Byte) : (s.storeMem n v).cartType = s.cartType := rfl
@[simp] theorem storeMem_ppu (s : State) (n : Nat) (v : Byte) : (s.storeMem n v).ppu = s.ppu := rfl
@[simp] theorem storeMem_totalCycles (s : State) (n : Nat) (v : Byte) : (s.storeMem n v).totalCycles = s.totalCycles := rfl
@[simp] theorem storeMem_params (s : State) (n : Nat) (v : Byte) : (s.storeMem n v).params = s.params := rfl
@[simp] theorem storeMem_cost (s : State) (n : Nat) (v : Byte) : (s.storeMem n v).cost = s.cost := rfl
@[simp] theorem storeMem_joypadDraws (s : State) (n : Nat) (v : Byte) : (s.storeMem n v).joypadDraws = s.joypadDraws := rfl
@[simp] theorem storeMem_rndDraws (s : State) (n : Nat) (v : Byte) : (s.storeMem n v).rndDraws = s.rndDraws := rfl
@[simp] theorem storeMem_mem (s : State) (n : Nat) (v : Byte) : (s.storeMem n v).mem = s.mem.write n v := rfl

/-! ## `State.writePpu` -/

@[simp] theorem writePpu_regs (s : State) (a : Word) (v : Byte) : (s.writePpu a v).regs = s.regs := by
  unfold State.writePpu; repeat (first | rfl | split)
@[simp] theorem writePpu_ime (s : State) (a : Word) (v : Byte) : (s.writePpu a v).ime = s.ime := by
  unfold State.writePpu; repeat (first | rfl | split)
@[simp] theorem writePpu_halted (s : State) (a : Word) (v : Byte) : (s.writePpu a v).halted = s.halted := by
  unfold State.writePpu; repeat (first | rfl | split)
@[simp] theorem writePpu_fault (s : State) (a : Word) (v : Byte) : (s.writePpu a v).fault = s.fault := by
  unfold State.writePpu; repeat (first | rfl | split)
@[simp] theorem writePpu_ie (s : State) (a : Word) (v : Byte) : (s.writePpu a v).ie = s.ie := by
  unfold State.writePpu; repeat (first | rfl | split)
@[simp] theorem writePpu_ifl (s : State) (a : Word) (v : Byte) : (s.writePpu a v).ifl = s.ifl := by
  unfold State.writePpu; repeat (first | rfl | split)
@[simp] theorem writePpu_rom (s : State) (a : Word) (v : Byte) : (s.writePpu a v).rom = s.rom := by
  unfold State.writePpu; repeat (first | rfl | split)
@[simp] theorem writePpu_romSize (s : State) (a : Word) (v : Byte) : (s.writePpu a v).romSize = s.romSize := by
  unfold State.writePpu; repeat (first | rfl | split)
@[simp] theorem writePpu_cartType (s : State) (a : Word) (v : Byte) : (s.writePpu a v).cartType = s.cartType := by
  unfold State.writePpu; repeat (first | rfl | split)
@[simp] theorem writePpu_mem (s : State) (a : Word) (v : Byte) : (s.writePpu a v).mem = s.mem := by
  unfold State.writePpu; repeat (first | rfl | split)
@[simp] theorem writePpu_totalCycles (s : State) (a : Word) (v : Byte) : (s.writePpu a v).totalCycles = s.totalCycles := by
  unfold State.writePpu; repeat (first | rfl | split)
@[simp] theorem writePpu_params (s : State) (a : Word) (v : Byte) : (s.writePpu a v).params = s.params := by
  unfold State.writePpu; repeat (first | rfl | split)
@[simp] theorem writePpu_cost (s : State) (a : Word) (v : Byte) : (s.writePpu a v).cost = s.cost := by
  unfold State.writePpu; repeat (first | rfl | split)
@[simp] theorem writePpu_joypadDraws (s : State) (a : Word) (v : Byte) : (s.writePpu a v).joypadDraws = s.joypadDraws := by
  unfold State.writePpu; repeat (first | rfl | split)
@[simp] theorem writePpu_rndDraws (s : State) (a : Word) (v : Byte) : (s.writePpu a v).rndDraws = s.rndDraws := by
  unfold State.writePpu; repeat (first | rfl | split)
@[simp] theorem writePpu_mode (s : State) (a : Word) (v : Byte) : (s.writePpu a v).ppu.mode = s.ppu.mode := by
  unfold State.writePpu; repeat (first | rfl | split)
@[simp] theorem writePpu_ly (s : State) (a : Word) (v : Byte) : (s.writePpu a v).ppu.ly = s.ppu.ly := by
  unfold State.writePpu; repeat (first | rfl | split)
@[simp] theorem writePpu_dots (s : State) (a : Word) (v : Byte) : (s.writePpu a v).ppu.dots = s.ppu.dots := by
  unfold State.writePpu; repeat (first | rfl | split)
@[simp] theorem writePpu_fb (s : State) (a : Word) (v : Byte) : (s.writePpu a v).ppu.fb = s.ppu.fb := by
  unfold State.writePpu; repeat (first | rfl | split)
@[simp] theorem writePpu_bgidx (s : State) (a : Word) (v : Byte) : (s.writePpu a v).ppu.bgidx = s.ppu.bgidx := by
  unfold State.writePpu; repeat (first | rfl | split)
@[simp] theorem writePpu_presented (s : State) (a : Word) (v : Byte) : (s.writePpu a v).ppu.presented = s.ppu.presented := by
  unfold State.writePpu; repeat (first | rfl | split)

/-! ## `State.drawn` -/

@[simp] theorem drawn_regs (s : State) (a : Word) : (s.drawn a).regs = s.regs := by
  unfold State.drawn; repeat (first | rfl | split)
@[simp] theorem drawn_ime (s : State) (a : Word) : (s.drawn a).ime = s.ime := by
  unfold State.drawn; repeat (first | rfl | split)
@[simp] theorem drawn_halted (s : State) (a : Word) : (s.drawn a).halted = s.halted := by
  unfold State.drawn; repeat (first | rfl | split)
@[simp] theorem drawn_fault (s : State) (a : Word) : (s.drawn a).fault = s.fault := by
  unfold State.drawn; repeat (first | rfl | split)
@[simp] theorem drawn_ie (s : State) (a : Word) : (s.drawn a).ie = s.ie := by
  unfold State.drawn; repeat (first | rfl | split)
@[simp] theorem drawn_ifl (s : State) (a : Word) : (s.drawn a).ifl = s.ifl := by
  unfold State.drawn; repeat (first | rfl | split)
@[simp] theorem drawn_rom (s : State) (a : Word) : (s.drawn a).rom = s.rom := by
  unfold State.drawn; repeat (first | rfl | split)
@[simp] theorem drawn_romSize (s : State) (a : Word) : (s.drawn a).romSize = s.romSize := by
  unfold State.drawn; repeat (first | rfl | split)
@[simp] theorem drawn_cartType (s : State) (a : Word) : (s.drawn a).cartType = s.cartType := by
  unfold State.drawn; repeat (first | rfl | split)
@[simp] theorem drawn_mem (s : State) (a : Word) : (s.drawn a).mem = s.mem := by
  unfold State.drawn; repeat (first | rfl | split)
@[simp] theorem drawn_ppu (s : State) (a : Word) : (s.drawn a).ppu = s.ppu := by
  unfold State.drawn; repeat (first | rfl | split)
@[simp] theorem drawn_totalCycles (s : State) (a : Word) : (s.drawn a).totalCycles = s.totalCycles := by
  unfold State.drawn; repeat (first | rfl | split)
@[simp] theorem drawn_params (s : State) (a : Word) : (s.drawn a).params = s.params := by
  unfold State.drawn; repeat (first | rfl | split)
@[simp] theorem drawn_cost (s : State) (a : Word) : (s.drawn a).cost = s.cost := by
  unfold State.drawn; repeat (first | rfl | split)
@[simp] theorem drawn_stored (s : State) (a b : Word) : (s.drawn a).stored b = s.stored b := by
  unfold State.drawn; repeat (first | rfl | split)

/-- A read leaves everything but the draw counters. -/
theorem drawn_eq (s : State) (a : Word) :
    s.drawn a = { s with joypadDraws := (s.drawn a).joypadDraws, rndDraws := (s.drawn a).rndDraws } := by
  unfold State.drawn; repeat (first | rfl | split)

end Sys2Proof.Machine
end

