-- ==== Sys2Proof/Laws/Bus.lean ====
section
/-! SUPPORT. What the bus operations do: one lemma per operation, in the terms of Safety.lean. -/

namespace Sys2Proof.Machine

/-! ## Regions -/

theorem region_rom (a : Word) : region a = some .rom ↔ a.toNat < 0x8000 := by
  have := a.isLt
  unfold region
  simp only
  repeat (first | (split; try omega) | simp | omega)

theorem region_mirror (a : Word) : region a = some .mirror ↔ 0xE000 ≤ a.toNat ∧ a.toNat < 0xFE00 := by
  have := a.isLt
  unfold region
  simp only
  repeat (first | (split; try omega) | simp | omega)

theorem region_io (a : Word) : region a = some .io ↔ 0xFF00 ≤ a.toNat ∧ a.toNat < 0xFF80 := by
  have := a.isLt
  unfold region
  simp only
  repeat (first | (split; try omega) | simp | omega)

theorem region_ie (a : Word) : region a = some .ie ↔ a = 0xFFFF := by
  have := a.isLt
  have h : a = 0xFFFF ↔ a.toNat = 0xFFFF := by rw [← BitVec.toNat_inj]; rfl
  rw [h]
  unfold region
  simp only
  repeat (first | (split; try omega) | simp | omega)

/-- Every address is in one of the regions: no access raises `addressDecode`. -/
theorem region_isSome (a : Word) : (region a).isSome = true := by
  have := a.isLt
  unfold region
  simp only
  repeat (first | (split; try omega) | simp | omega)

theorem region_ne_none (a : Word) : region a ≠ none := by
  have := region_isSome a
  intro h
  simp [h] at this

/-! ## `home` -/

theorem home_toNat (a : Word) :
    (home a).toNat = if 0xE000 ≤ a.toNat ∧ a.toNat < 0xFE00 then a.toNat - 0x2000 else a.toNat := by
  have := a.isLt
  unfold home
  simp only [region_mirror]
  split
  · rw [BitVec.toNat_sub]
    simp
    omega
  · rfl

theorem home_of_not_mirror (a : Word) (h : ¬ (0xE000 ≤ a.toNat ∧ a.toNat < 0xFE00)) : home a = a := by
  unfold home
  simp only [region_mirror, if_neg h]

theorem home_inj_toNat (a b : Word) : home a = home b ↔ (home a).toNat = (home b).toNat := by
  rw [BitVec.toNat_inj]

/-- `home` reaches a plain address, whose `home` is itself. -/
theorem home_home (a : Word) : home (home a) = home a := by
  apply home_of_not_mirror
  rw [home_toNat]
  have := a.isLt
  split <;> omega

/-! ## Reads -/

/-- A readable byte is read, and takes its draw. -/
theorem read8_ok (a : Word) (s : State) (h : s.readable a) : read8 a s = .ok (s.readValue a) (s.drawn a) := by
  have hn := region_ne_none a
  have hr := region_rom a
  have hio := region_io a
  have h0 : a = 0xFF00 → region a = some .io := by rintro rfl; decide
  unfold read8 State.readValue State.drawn
  cases hreg : region a with
  | none => exact absurd hreg hn
  | some r =>
    cases r <;> simp only [hreg] at h0 ⊢
    case rom =>
      have hlt := hr.1 hreg
      rw [if_pos (h hlt), if_neg (fun e => nomatch h0 e), if_neg (fun e => nomatch h0 e)]
      simp
    case io =>
      unfold readIo
      simp only [true_and]
      repeat (first | rfl | split)
    all_goals
      rw [if_neg (fun e => nomatch h0 e), if_neg (fun e => nomatch h0 e)]
      simp

/-- A read of an address that is not readable raises, and changes nothing else. -/
theorem read8_raises (a : Word) (s : State) (h : ¬ s.readable a) :
    read8 a s = .raised (.romReadBeyondImage a) { s with fault := some (.romReadBeyondImage a) } := by
  simp only [State.readable, Classical.not_imp] at h
  unfold read8
  rw [(region_rom a).2 h.1]
  simp only
  rw [if_neg h.2]
  rfl

/-- What is readable depends on the image length alone. -/
theorem readable_congr {s t : State} (h : t.romSize = s.romSize) (a : Word) : t.readable a ↔ s.readable a := by
  simp only [State.readable, h]

@[simp] theorem drawn_readable (s : State) (a b : Word) : (s.drawn a).readable b ↔ s.readable b :=
  readable_congr (by simp) b

/-- A 16-bit read, low byte first. -/
theorem read16_ok (a : Word) (s : State) (h : s.readable16 a) :
    read16 a s = .ok (s.readValue16 a) (s.drawn16 a) := by
  unfold read16
  rw [read8_ok a s h.1]
  simp only [Res.andThen]
  rw [read8_ok (a + 1) _ ((drawn_readable s a _).2 h.2)]
  rfl

/-- A pop, SP incremented after the read. -/
theorem pop16_ok (s : State) (h : s.readable16 s.regs.sp) :
    pop16 s = .ok (s.readValue16 s.regs.sp)
      { s.drawn16 s.regs.sp with regs := { s.regs with sp := s.regs.sp + 2 } } := by
  unfold pop16
  rw [read16_ok _ s h]
  simp [Res.andThen, State.drawn16]

/-! ## Writes -/

/-- Where the bus holds the byte of an address, after a write to storage. -/
theorem stored_storeMem (s : State) (n : Nat) (v : Byte) (b : Word) (h : (home b).toNat ≠ n) :
    (s.storeMem n v).stored b = s.stored b := by
  have key : (s.storeMem n v).mem.read (home b).toNat = s.mem.read (home b).toNat := by
    simp [Memory.read_write_ne _ _ h]
  unfold State.stored
  split
  · rfl
  · next hio =>
    have hb : home b = b := home_of_not_mirror b (by have := (region_io b).1 hio; omega)
    rw [hb] at key
    unfold State.ioByte
    repeat (first | rfl | exact key | split)
  · rfl
  · exact key

theorem stored_of_io (s : State) (b : Word) (h : region b = some .io) : s.stored b = s.ioByte b := by
  unfold State.stored; rw [h]

theorem stored_of_not_io (s t : State) (b : Word) (h : region b ≠ some .io) (hrom : t.rom = s.rom) (hie : t.ie = s.ie)
    (hmem : t.mem.read (home b).toNat = s.mem.read (home b).toNat) : t.stored b = s.stored b := by
  unfold State.stored
  split
  · rw [hrom]
  · contradiction
  · rw [hie]
  · exact hmem

theorem ppuHeld_iff (a : Word) : ppuHeld a = true ↔
    a = 0xFF40 ∨ a = 0xFF42 ∨ a = 0xFF43 ∨ a = 0xFF47 ∨ a = 0xFF48 ∨ a = 0xFF49 := by
  simp [ppuHeld, or_assoc]

theorem stored_writePpu (s : State) (a : Word) (v : Byte) (h : ppuHeld a = true) (b : Word) :
    (s.writePpu a v).stored b = if b = a then v else s.stored b := by
  have hio : region a = some .io := by
    rcases (ppuHeld_iff a).1 h with h | h | h | h | h | h <;> subst h <;> decide
  by_cases hb : region b = some .io
  · rw [stored_of_io _ b hb, stored_of_io _ b hb]
    by_cases e : b = a
    · subst e
      rcases (ppuHeld_iff b).1 h with h | h | h | h | h | h <;> subst h <;> rfl
    · rw [if_neg e]
      rcases (ppuHeld_iff a).1 h with h | h | h | h | h | h <;> subst h <;>
        simp only [State.ioByte, State.writePpu, if_neg e, BitVec.reduceEq, if_true, if_false]
  · rw [if_neg (by rintro rfl; contradiction)]
    exact stored_of_not_io s _ b hb (by simp) (by simp) (by simp)

theorem stored_setIf (s : State) (v : Byte) (b : Word) :
    State.stored { s with ifl := v } b = if b = 0xFF0F then v else s.stored b := by
  by_cases hb : region b = some .io
  · rw [stored_of_io _ b hb, stored_of_io _ b hb]
    unfold State.ioByte
    repeat (first | rfl | split)
  · rw [if_neg (by rintro rfl; exact hb (by decide))]
    exact stored_of_not_io s _ b hb rfl rfl rfl

theorem stored_setIe (s : State) (v : Byte) (b : Word) :
    State.stored { s with ie := v } b = if b = 0xFFFF then v else s.stored b := by
  split
  · next h => subst h; rfl
  · next h =>
    have hr : region b ≠ some .ie := fun e => h ((region_ie b).1 e)
    unfold State.stored
    split
    · rfl
    · rfl
    · contradiction
    · rfl

/-- `a` is an address whose byte `State.mem` holds. -/
theorem stored_storeMem_same (s : State) (a : Word) (v : Byte) (hrom : region a ≠ some .rom) (hie : region a ≠ some .ie)
    (hp : ppuHeld a = false) (hif : a ≠ 0xFF0F) : (s.storeMem (home a).toNat v).stored a = v := by
  unfold State.stored
  split
  · contradiction
  · next hio =>
    have hb : home a = a := home_of_not_mirror a (by have := (region_io a).1 hio; omega)
    unfold State.ioByte
    simp only [ppuHeld, Bool.or_eq_false_iff, beq_eq_false_iff_ne, ne_eq] at hp
    simp [hb]
    simp at hp hif
    simp [hp, hif]
  · contradiction
  · simp

theorem home_iff_of_home (a b : Word) (hnm : ¬ (0xC000 ≤ a.toNat ∧ a.toNat < 0xDE00)) (hba : home b = a) : b = a := by
  have h1 : (home b).toNat = a.toNat := by rw [hba]
  rw [home_toNat] at h1
  apply BitVec.eq_of_toNat_eq
  have := b.isLt
  split at h1 <;> omega


/-! ## The DMA copy -/

/-- A state that differs in memory and draws alone, field by field. -/
theorem frame_mem_iff (s u : State) :
    u = { s with mem := u.mem, joypadDraws := u.joypadDraws, rndDraws := u.rndDraws } ↔
      u.regs = s.regs ∧ u.ime = s.ime ∧ u.halted = s.halted ∧ u.fault = s.fault ∧ u.ie = s.ie ∧ u.ifl = s.ifl ∧
        u.rom = s.rom ∧ u.romSize = s.romSize ∧ u.cartType = s.cartType ∧ u.ppu = s.ppu ∧
        u.totalCycles = s.totalCycles ∧ u.params = s.params ∧ u.cost = s.cost := by
  cases u; cases s; simp

/-- The state `u` reached from `s` when the first `k` bytes of a DMA copy from `src` are done. -/
structure DmaDone (s : State) (src : Word) (k : Nat) (u : State) : Prop where
  rest : u = { s with mem := u.mem, joypadDraws := u.joypadDraws, rndDraws := u.rndDraws }
  others : ∀ b : Word, ¬ (0xFE00 ≤ b.toNat ∧ b.toNat < 0xFE00 + k) → u.stored b = s.stored b
  table : ∀ i, i < k → u.stored (0xFE00 + BitVec.ofNat 16 i) = s.readValue (src + BitVec.ofNat 16 i)
  joypad : (∀ i, i < k → src + BitVec.ofNat 16 i ≠ 0xFF00) → u.joypadDraws = s.joypadDraws
  rnd : (∀ i, i < k → src + BitVec.ofNat 16 i ≠ s.params.randomAddr) → u.rndDraws = s.rndDraws

theorem page_add_toNat (v : Byte) (i : Nat) (hi : i < 160) :
    (wordOf v 0 + BitVec.ofNat 16 i).toNat = 256 * v.toNat + i := by
  have hv := v.isLt
  have : (wordOf v 0).toNat = 256 * v.toNat := by
    rw [wordOf, BitVec.toNat_append, Nat.shiftLeft_eq]
    simp
    omega
  rw [BitVec.toNat_add, this, BitVec.toNat_ofNat]
  omega

theorem table_add_toNat (i : Nat) (hi : i < 160) : ((0xFE00 : Word) + BitVec.ofNat 16 i).toNat = 0xFE00 + i := by
  rw [BitVec.toNat_add, BitVec.toNat_ofNat]
  simp
  omega

/-- A source byte of a DMA copy is not one of the table bytes written before it. -/
theorem DmaDone.source {s : State} {v : Byte} {k : Nat} {u : State} (h : DmaDone s (wordOf v 0) k u) (hk : k < 160) :
    u.readValue (wordOf v 0 + BitVec.ofNat 16 k) = s.readValue (wordOf v 0 + BitVec.ofNat 16 k) := by
  have hk' := page_add_toNat v k hk
  have hst : u.stored (wordOf v 0 + BitVec.ofNat 16 k) = s.stored (wordOf v 0 + BitVec.ofNat 16 k) := by
    apply h.others
    rw [hk']
    omega
  have inj : ∀ i, i < k → wordOf v 0 + BitVec.ofNat 16 i ≠ wordOf v 0 + BitVec.ofNat 16 k := by
    intro i hi e
    have := congrArg BitVec.toNat e
    rw [page_add_toNat v i (by omega), hk'] at this
    omega
  have hp : u.params = s.params := by rw [h.rest]
  unfold State.readValue
  rw [hst, hp]
  split
  · next hj => rw [h.joypad fun i hi => hj ▸ inj i hi]
  · split
    · next hr => rw [h.rnd fun i hi => hr.2 ▸ inj i hi]
    · rfl

theorem DmaDone.step {s : State} {v : Byte} {k : Nat} {u : State} (h : DmaDone s (wordOf v 0) k u) (hk : k < 160) :
    DmaDone s (wordOf v 0) (k + 1)
      ((u.drawn (wordOf v 0 + BitVec.ofNat 16 k)).storeMem (0xFE00 + k)
        (u.readValue (wordOf v 0 + BitVec.ofNat 16 k))) := by
  have hsrc := h.source hk
  have hhome : ∀ b : Word, (home b).toNat = 0xFE00 + k ↔ b.toNat = 0xFE00 + k := by
    intro b
    rw [home_toNat]
    have := b.isLt
    split <;> omega
  constructor
  · have hr := h.rest
    rw [frame_mem_iff] at hr ⊢
    simpa using hr
  · intro b hb
    rw [stored_storeMem _ _ _ b fun e => by have := (hhome b).1 e; omega, drawn_stored]
    exact h.others b (by omega)
  · intro i hi
    by_cases hik : i = k
    · subst hik
      rw [← hsrc]
      have ha := table_add_toNat i hk
      have hreg : region (0xFE00 + BitVec.ofNat 16 i) = some .oam := by
        unfold region
        simp only [ha]
        repeat (first | rfl | (split; try omega) | omega)
      have hh : (home (0xFE00 + BitVec.ofNat 16 i)).toNat = 0xFE00 + i := (hhome _).2 ha
      have := stored_storeMem_same (u.drawn (wordOf v 0 + BitVec.ofNat 16 i)) (0xFE00 + BitVec.ofNat 16 i)
        (u.readValue (wordOf v 0 + BitVec.ofNat 16 i)) (by rw [hreg]; decide) (by rw [hreg]; decide)
        (by
          rw [Bool.eq_false_iff]
          intro hp
          have hn : ∀ x : Word, 0xFF00 ≤ x.toNat → (0xFE00 + BitVec.ofNat 16 i : Word) ≠ x := by
            rintro x hx rfl
            omega
          rcases (ppuHeld_iff _).1 hp with e | e | e | e | e | e <;> exact hn _ (by decide) e)
        (by
          intro e
          rw [e] at ha
          simp at ha
          omega)
      rw [hh] at this
      exact this
    · rw [stored_storeMem _ _ _ _ (by
        intro e
        have := (hhome _).1 e
        rw [table_add_toNat i (by omega)] at this
        omega), drawn_stored]
      exact h.table i (by omega)
  · intro hne
    have : wordOf v 0 + BitVec.ofNat 16 k ≠ 0xFF00 := hne k (by omega)
    rw [storeMem_joypadDraws, State.drawn, if_neg this]
    have := h.joypad fun i hi => hne i (by omega)
    split <;> exact this
  · intro hne
    have : wordOf v 0 + BitVec.ofNat 16 k ≠ u.params.randomAddr := by rw [h.rest]; exact hne k (by omega)
    have hr := h.rnd fun i hi => hne i (by omega)
    rw [storeMem_rndDraws, State.drawn]
    split
    · exact hr
    · rw [if_neg fun e => this e.2]
      exact hr

theorem DmaDone.zero (s : State) (src : Word) : DmaDone s src 0 s :=
  ⟨rfl, fun _ _ => rfl, fun _ h => absurd h (by omega), fun _ => rfl, fun _ => rfl⟩

/-- A copy whose sources are readable ends. -/
theorem dmaCopy_ok (s : State) (v : Byte) (hr : ∀ i, i < 160 → s.readable (wordOf v 0 + BitVec.ofNat 16 i)) :
    ∀ (left : Nat) (u : State), left ≤ 160 → DmaDone s (wordOf v 0) (160 - left) u →
      ∃ t, dmaCopy (wordOf v 0) left u = .ok () t ∧ DmaDone s (wordOf v 0) 160 t := by
  intro left
  induction left with
  | zero => exact fun u _ h => ⟨u, rfl, h⟩
  | succ n ih =>
    intro u hn h
    have hk : 160 - (n + 1) = 159 - n := by omega
    rw [hk] at h
    have hu : u.readable (wordOf v 0 + BitVec.ofNat 16 (159 - n)) :=
      (readable_congr (by rw [h.rest]) _).2 (hr _ (by omega))
    have := ih _ (by omega) (by
      have := h.step (by omega)
      rwa [show 159 - n + 1 = 160 - n by omega] at this)
    obtain ⟨t, ht, hd⟩ := this
    refine ⟨t, ?_, hd⟩
    rw [dmaCopy, read8_ok _ _ hu]
    exact ht

/-- A copy with a source byte that is not readable raises at the first such byte, with the bytes before it copied. -/
theorem dmaCopy_raises (s : State) (v : Byte) (n : Nat) (hn : n < 160)
    (hr : ∀ i, i < n → s.readable (wordOf v 0 + BitVec.ofNat 16 i))
    (hbad : ¬ s.readable (wordOf v 0 + BitVec.ofNat 16 n)) :
    ∀ (left : Nat) (u : State), left ≤ 160 → 160 - left ≤ n → DmaDone s (wordOf v 0) (160 - left) u →
      ∃ t, DmaDone s (wordOf v 0) n t ∧ dmaCopy (wordOf v 0) left u =
        .raised (.romReadBeyondImage (wordOf v 0 + BitVec.ofNat 16 n))
          { t with fault := some (.romReadBeyondImage (wordOf v 0 + BitVec.ofNat 16 n)) } := by
  intro left
  induction left with
  | zero => omega
  | succ m ih =>
    intro u hm hle h
    have hk : 160 - (m + 1) = 159 - m := by omega
    rw [hk] at h hle
    rcases Nat.lt_or_ge (159 - m) n with hlt | hge
    · have hu : u.readable (wordOf v 0 + BitVec.ofNat 16 (159 - m)) :=
        (readable_congr (by rw [h.rest]) _).2 (hr _ hlt)
      have := ih _ (by omega) (by omega) (by
        have := h.step (by omega)
        rwa [show 159 - m + 1 = 160 - m by omega] at this)
      obtain ⟨t, hd, ht⟩ := this
      refine ⟨t, hd, ?_⟩
      rw [dmaCopy, read8_ok _ _ hu]
      exact ht
    · have he : 159 - m = n := by omega
      rw [he] at h
      refine ⟨u, h, ?_⟩
      have hu : ¬ u.readable (wordOf v 0 + BitVec.ofNat 16 n) := fun hu =>
        hbad ((readable_congr (by rw [h.rest]) _).1 hu)
      rw [dmaCopy, he, read8_raises _ _ hu]
      rfl

/-! ## A byte write -/

theorem Stored.of_rom (s : State) (a : Word) (v : Byte) (h : a.toNat < 0x8000) : Stored s a v s where
  value := by omega
  others _ _ _ := rfl
  table e := by subst e; simp at h
  palettes := by
    have : ∀ x : Word, 0x8000 ≤ x.toNat → a ≠ x := by rintro x hx rfl; omega
    rw [if_neg (this _ (by decide)), if_neg (this _ (by decide)), if_neg (this _ (by decide))]
    exact ⟨rfl, rfl, rfl⟩
  draws _ := ⟨rfl, rfl⟩
  rest := rfl

/-- A write to an address that `State.mem` holds. -/
theorem Stored.of_storeMem (s : State) (a : Word) (v : Byte) (hrom : region a ≠ some .rom) (hie : region a ≠ some .ie)
    (hp : ppuHeld a = false) (hif : a ≠ 0xFF0F) (hdma : a ≠ 0xFF46) :
    Stored s a v (s.storeMem (home a).toNat v) where
  value _ := stored_storeMem_same s a v hrom hie hp hif
  others b hb _ := by
    apply stored_storeMem
    rcases hb with hb | hb
    · rwa [Ne, ← home_inj_toNat]
    · exact absurd ((region_rom a).2 hb) hrom
  table e := absurd e hdma
  palettes := by
    rw [if_neg (by rintro rfl; exact absurd hp (by decide)), if_neg (by rintro rfl; exact absurd hp (by decide)),
      if_neg (by rintro rfl; exact absurd hp (by decide))]
    exact ⟨rfl, rfl, rfl⟩
  draws _ := ⟨rfl, rfl⟩
  rest := rfl

theorem Stored.of_ppu (s : State) (a : Word) (v : Byte) (hp : ppuHeld a = true) : Stored s a v (s.writePpu a v) where
  value _ := by rw [stored_writePpu s a v hp a, if_pos rfl]
  others b hb _ := by
    rw [stored_writePpu s a v hp b, if_neg]
    rintro rfl
    rcases hb with hb | hb
    · exact hb rfl
    · rcases (ppuHeld_iff _).1 hp with h | h | h | h | h | h <;> subst h <;> simp at hb
  table e := by subst e; exact absurd hp (by decide)
  palettes := by
    rcases (ppuHeld_iff a).1 hp with h | h | h | h | h | h <;> subst h <;> exact ⟨rfl, rfl, rfl⟩
  draws _ := ⟨by simp, by simp⟩
  rest := by
    rcases (ppuHeld_iff a).1 hp with h | h | h | h | h | h <;> subst h <;> rfl

theorem Stored.of_if (s : State) (v : Byte) : Stored s 0xFF0F v { s with ifl := v } where
  value _ := rfl
  others b hb _ := by
    rw [stored_setIf, if_neg]
    rintro rfl
    rcases hb with hb | hb
    · exact hb rfl
    · simp at hb
  table e := absurd e (by decide)
  palettes := ⟨rfl, rfl, rfl⟩
  draws _ := ⟨rfl, rfl⟩
  rest := rfl

theorem Stored.of_ie (s : State) (v : Byte) : Stored s 0xFFFF v { s with ie := v } where
  value _ := rfl
  others b hb _ := by
    rw [stored_setIe, if_neg]
    rintro rfl
    rcases hb with hb | hb
    · exact hb rfl
    · simp at hb
  table e := absurd e (by decide)
  palettes := ⟨rfl, rfl, rfl⟩
  draws _ := ⟨rfl, rfl⟩
  rest := rfl

theorem Stored.of_dma (s : State) (v : Byte) (t : State)
    (h : DmaDone (s.storeMem 0xFF46 v) (wordOf v 0) 160 t) : Stored s 0xFF46 v t where
  value _ := by
    rw [h.others 0xFF46 (by simp)]
    exact stored_storeMem_same s 0xFF46 v (by decide) (by decide) (by decide) (by decide)
  others b hb hn := by
    rw [h.others b (hn rfl)]
    apply stored_storeMem
    rcases hb with hb | hb
    · intro e
      exact hb ((home_inj_toNat _ _).2 e)
    · simp at hb
  table _ i hi := h.table i hi
  palettes := by rw [h.rest]; exact ⟨rfl, rfl, rfl⟩
  draws e := absurd rfl e
  rest := by
    conv => lhs; rw [h.rest]
    rw [h.rest]
    rfl

/-- A writable byte is written: memory is as `Stored` says, the CPU registers and the cost are untouched. -/
theorem write8_ok (a : Word) (v : Byte) (s : State) (h : s.writable a v) :
    ∃ t, write8 a v s = .ok () t ∧ Stored s a v t ∧ t.regs = s.regs ∧ t.cost = s.cost := by
  have hn := region_ne_none a
  have hie := region_ie a
  have hrom := region_rom a
  have hio := region_io a
  have io_of : ∀ x : Word, 0xFF00 ≤ x.toNat ∧ x.toNat < 0xFF80 → a = x → region a = some .io := by
    rintro x hx rfl
    exact hio.2 hx
  have hp : region a ≠ some .io → ppuHeld a = false := by
    intro hne
    rw [Bool.eq_false_iff]
    intro hp
    rcases (ppuHeld_iff a).1 hp with e | e | e | e | e | e <;> exact hne (io_of _ (by decide) e)
  unfold write8
  cases hreg : region a with
  | none => exact absurd hreg hn
  | some r =>
    cases r <;> simp only
    case rom => exact ⟨s, rfl, Stored.of_rom s a v (hrom.1 hreg), rfl, rfl⟩
    case ie =>
      obtain rfl := hie.1 hreg
      exact ⟨_, rfl, Stored.of_ie s v, rfl, rfl⟩
    case io =>
      have hh : home a = a := home_of_not_mirror a (by have := hio.1 hreg; omega)
      unfold writeIo
      by_cases hpp : ppuHeld a = true
      · rw [if_pos hpp]
        exact ⟨_, rfl, Stored.of_ppu s a v hpp, by simp, by simp⟩
      · rw [if_neg hpp]
        by_cases hif : a = 0xFF0F
        · subst hif
          exact ⟨_, rfl, Stored.of_if s v, rfl, rfl⟩
        · rw [if_neg hif]
          by_cases hd : a = 0xFF46
          · subst hd
            have hr : ∀ i, i < 160 → (s.storeMem 0xFF46 v).readable (wordOf v 0 + BitVec.ofNat 16 i) :=
              fun i hi => (readable_congr (by simp) _).2 (h rfl i hi)
            obtain ⟨t, ht, hdone⟩ := dmaCopy_ok (s.storeMem 0xFF46 v) v hr 160 _ (by omega) (DmaDone.zero _ _)
            refine ⟨t, ht, Stored.of_dma s v t hdone, ?_, ?_⟩ <;> rw [hdone.rest] <;> rfl
          · rw [if_neg hd]
            have := Stored.of_storeMem s a v (by simp [hreg]) (by simp [hreg]) (by simpa using hpp) hif hd
            rw [hh] at this
            exact ⟨_, rfl, this, rfl, rfl⟩
    all_goals
      have hne : region a ≠ some .io := by simp [hreg]
      exact ⟨_, rfl, Stored.of_storeMem s a v (by simp [hreg]) (by simp [hreg]) (hp hne)
        (fun e => hne (io_of _ (by decide) e)) (fun e => hne (io_of _ (by decide) e)), rfl, rfl⟩

/-- A byte that is not writable: the trigger of a DMA copy, which raises at its first source byte beyond the image. -/
theorem write8_raises (a : Word) (v : Byte) (s : State) (h : ¬ s.writable a v) :
    ∃ n t, n < 160 ∧ (∀ i, i < n → s.readable (wordOf v 0 + BitVec.ofNat 16 i)) ∧
      DmaDone (s.storeMem 0xFF46 v) (wordOf v 0) n t ∧ write8 a v s =
        .raised (.romReadBeyondImage (wordOf v 0 + BitVec.ofNat 16 n))
          { t with fault := some (.romReadBeyondImage (wordOf v 0 + BitVec.ofNat 16 n)) } := by
  simp only [State.writable, Classical.not_imp, not_forall] at h
  obtain ⟨rfl, hex⟩ := h
  have hex' : ∃ n, n < 160 ∧ ¬ s.readable (wordOf v 0 + BitVec.ofNat 16 n) := by
    obtain ⟨n, hn, hb⟩ := hex
    exact ⟨n, hn, by simpa only [State.readable, Classical.not_imp] using hb⟩
  classical
  let n := Nat.find hex'
  have hn := Nat.find_spec hex'
  have hmin : ∀ i, i < n → s.readable (wordOf v 0 + BitVec.ofNat 16 i) := by
    intro i hi
    by_contra hb
    exact Nat.find_min hex' hi ⟨by omega, hb⟩
  obtain ⟨t, hd, ht⟩ := dmaCopy_raises (s.storeMem 0xFF46 v) v n hn.1
    (fun i hi => (readable_congr (by simp) _).2 (hmin i hi))
    (fun hb => hn.2 ((readable_congr (by simp) _).1 hb)) 160 _ (by omega) (by omega) (DmaDone.zero _ _)
  exact ⟨n, t, hn.1, hmin, hd, ht⟩

/-! ## 16-bit writes and the stack -/

theorem writable_congr {s t : State} (h : t.romSize = s.romSize) (a : Word) (v : Byte) :
    t.writable a v ↔ s.writable a v := by
  simp only [State.writable, State.readable, h]

theorem Stored.romSize {s t : State} {a : Word} {v : Byte} (h : Stored s a v t) : t.romSize = s.romSize := by
  rw [h.rest]

/-- A 16-bit write, low byte first. -/
theorem write16_ok (a v : Word) (s : State) (h : s.writable16 a v) :
    ∃ t, write16 a v s = .ok () t ∧ Stored16 s a v t ∧ t.regs = s.regs ∧ t.cost = s.cost := by
  obtain ⟨m, hm, hs, hr, hc⟩ := write8_ok a (lowByte v) s h.1
  obtain ⟨t, ht, hs', hr', hc'⟩ := write8_ok (a + 1) (highByte v) m ((writable_congr hs.romSize _ _).2 h.2)
  refine ⟨t, ?_, ⟨m, hs, hs'⟩, hr'.trans hr, hc'.trans hc⟩
  unfold write16
  rw [hm]
  exact ht

/-- What `Stored` says of the state before does not depend on its CPU registers. -/
theorem Stored.of_regs {s t : State} {a : Word} {v : Byte} (r : Regs) (h : Stored { s with regs := r } a v t) :
    Stored s a v t where
  value := h.value
  others := h.others
  table := h.table
  palettes := h.palettes
  draws := h.draws
  rest := h.rest

/-- Nor what it says of the state after on its registers and its cost. -/
theorem Stored.to_regs {s t : State} {a : Word} {v : Byte} (r : Regs) (c : Nat) (h : Stored s a v t) :
    Stored s a v { t with regs := r, cost := c } where
  value := h.value
  others := h.others
  table := h.table
  palettes := h.palettes
  draws := h.draws
  rest := by
    conv => lhs; rw [h.rest]

theorem Stored16.of_regs {s t : State} {a v : Word} (r : Regs) (h : Stored16 { s with regs := r } a v t) :
    Stored16 s a v t := by
  obtain ⟨m, h1, h2⟩ := h
  exact ⟨m, h1.of_regs r, h2⟩

theorem Stored16.to_regs {s t : State} {a v : Word} (r : Regs) (c : Nat) (h : Stored16 s a v t) :
    Stored16 s a v { t with regs := r, cost := c } := by
  obtain ⟨m, h1, h2⟩ := h
  exact ⟨m, h1, h2.to_regs r c⟩

/-- A push: SP two lower, the word stored there. -/
theorem push16_ok (v : Word) (s : State) (h : s.writable16 (s.regs.sp - 2) v) :
    ∃ t, push16 v s = .ok () t ∧ Stored16 s (s.regs.sp - 2) v t ∧
      t.regs = { s.regs with sp := s.regs.sp - 2 } ∧ t.cost = s.cost := by
  obtain ⟨t, ht, hs, hr, hc⟩ := write16_ok (s.regs.sp - 2) v { s with regs := { s.regs with sp := s.regs.sp - 2 } } h
  exact ⟨t, ht, hs.of_regs _, hr, hc⟩

end Sys2Proof.Machine
end

