-- ==== Sys2Proof/Laws/Keeps.lean ====
section
/-! SUPPORT. What every bus operation keeps, whether it ends or raises: the image, the parameters, the PPU's timing and
pictures, the cycle total, and the parts of the invariant that speak of memory, palettes and F. -/

namespace Sys2Proof.Machine

/-- A palette's entries follow its raw byte. -/
def PalettesOk (s : State) : Prop :=
  s.ppu.bgPal = decodePalette s.params s.ppu.bgp ∧ s.ppu.objPal0 = decodePalette s.params s.ppu.obp0 ∧
    s.ppu.objPal1 = decodePalette s.params s.ppu.obp1

/-- Memory is canonical and lists storage addresses only. -/
def MemOk (s : State) : Prop := s.mem.wf ∧ ∀ c ∈ s.mem, inStorage c.1

/-- `u` is reached from `s` by bus accesses and register writes. -/
structure Keeps (s u : State) : Prop where
  rom : u.rom = s.rom
  romSize : u.romSize = s.romSize
  cartType : u.cartType = s.cartType
  params : u.params = s.params
  totalCycles : u.totalCycles = s.totalCycles
  mode : u.ppu.mode = s.ppu.mode
  ly : u.ppu.ly = s.ppu.ly
  dots : u.ppu.dots = s.ppu.dots
  fb : u.ppu.fb = s.ppu.fb
  bgidx : u.ppu.bgidx = s.ppu.bgidx
  presented : u.ppu.presented = s.ppu.presented
  flags : s.regs.f &&& 0x0F = 0 → u.regs.f &&& 0x0F = 0
  mem : MemOk s → MemOk u
  palettes : PalettesOk s → PalettesOk u

theorem Keeps.refl (s : State) : Keeps s s := by constructor <;> first | rfl | exact id

theorem Keeps.trans {s t u : State} (h : Keeps s t) (k : Keeps t u) : Keeps s u where
  rom := k.rom.trans h.rom
  romSize := k.romSize.trans h.romSize
  cartType := k.cartType.trans h.cartType
  params := k.params.trans h.params
  totalCycles := k.totalCycles.trans h.totalCycles
  mode := k.mode.trans h.mode
  ly := k.ly.trans h.ly
  dots := k.dots.trans h.dots
  fb := k.fb.trans h.fb
  bgidx := k.bgidx.trans h.bgidx
  presented := k.presented.trans h.presented
  flags x := k.flags (h.flags x)
  mem x := k.mem (h.mem x)
  palettes x := k.palettes (h.palettes x)

/-- An update of the CPU registers that leaves F's low nibble zero. -/
theorem Keeps.of_regs (s : State) (r : Regs) (hf : s.regs.f &&& 0x0F = 0 → r.f &&& 0x0F = 0) :
    Keeps s { s with regs := r } := by
  constructor <;> first | rfl | exact id | exact hf

/-- What a result keeps: an end changes `fault` not at all, a raise sets it to what was raised. -/
def Res.Keeps {α : Type} (s : State) : Res α → Prop
  | .ok _ u => Machine.Keeps s u ∧ u.fault = s.fault
  | .raised info u => Machine.Keeps s u ∧ u.fault = some info

theorem Res.Keeps.andThen {α β : Type} {s : State} {r : Res α} {k : α → State → Res β} (h : r.Keeps s)
    (hk : ∀ v u, r = .ok v u → (k v u).Keeps u) : (r.andThen k).Keeps s := by
  cases r with
  | raised info u => exact h
  | ok v u =>
    have := hk v u rfl
    show (k v u).Keeps s
    cases hr : k v u with
    | ok w t =>
      rw [hr] at this
      exact ⟨h.1.trans this.1, this.2.trans h.2⟩
    | raised info t =>
      rw [hr] at this
      exact ⟨h.1.trans this.1, this.2⟩

theorem Res.Keeps.of_ok {α : Type} {s u : State} (v : α) (h : Machine.Keeps s u) (hf : u.fault = s.fault) :
    (Res.ok v u).Keeps s := ⟨h, hf⟩

theorem raise_keeps {α : Type} (info : FaultInfo) (s : State) : (raise (α := α) info s).Keeps s := by
  refine ⟨?_, rfl⟩
  constructor <;> first | rfl | exact id

theorem drawn_keeps (s : State) (a : Word) : Keeps s (s.drawn a) := by
  rw [drawn_eq]
  constructor <;> first | rfl | exact id

theorem read8_keeps (a : Word) (s : State) : (read8 a s).Keeps s := by
  by_cases h : s.readable a
  · rw [read8_ok a s h]
    exact ⟨drawn_keeps s a, by simp⟩
  · rw [read8_raises a s h]
    refine ⟨?_, rfl⟩
    constructor <;> first | rfl | exact id

theorem storeMem_keeps (s : State) (n : Nat) (v : Byte) (hn : inStorage n) : Keeps s (s.storeMem n v) := by
  constructor
  case mem =>
    rintro ⟨h1, h2⟩
    refine ⟨Memory.wf_write _ _ _ h1, fun c hc => ?_⟩
    rcases Memory.mem_write _ _ _ c hc with rfl | hc
    · exact hn
    · exact h2 c hc
  all_goals first | rfl | exact id

theorem dmaCopy_keeps (src : Word) : ∀ (left : Nat) (s : State), left ≤ 160 → (dmaCopy src left s).Keeps s := by
  intro left
  induction left with
  | zero => exact fun s _ => ⟨Keeps.refl s, rfl⟩
  | succ n ih =>
    intro s hn
    unfold dmaCopy
    refine (read8_keeps _ s).andThen fun v u _ => ?_
    have hst : inStorage (0xFE00 + (159 - n)) := by
      refine ⟨by omega, by omega, by omega, ?_⟩
      simp only [List.mem_cons, List.not_mem_nil, or_false, not_or]
      omega
    have h := ih (u.storeMem (0xFE00 + (159 - n)) v) (by omega)
    cases hr : dmaCopy src n (u.storeMem (0xFE00 + (159 - n)) v) with
    | ok w t =>
      rw [hr] at h
      exact ⟨(storeMem_keeps u _ v hst).trans h.1, h.2⟩
    | raised info t =>
      rw [hr] at h
      exact ⟨(storeMem_keeps u _ v hst).trans h.1, h.2⟩

theorem writePpu_keeps (s : State) (a : Word) (v : Byte) : Keeps s (s.writePpu a v) := by
  constructor
  case palettes =>
    rintro ⟨h1, h2, h3⟩
    unfold State.writePpu PalettesOk
    repeat (first | exact ⟨h1, h2, h3⟩ | exact ⟨rfl, h2, h3⟩ | exact ⟨h1, rfl, h3⟩ | exact ⟨h1, h2, rfl⟩ | split)
  case flags => simp
  case mem => simp [MemOk]
  all_goals simp

theorem write8_keeps (a : Word) (v : Byte) (s : State) : (write8 a v s).Keeps s := by
  have hl := a.isLt
  have nif : ∀ x : Word, a.toNat = x.toNat → a = x := fun x h => BitVec.eq_of_toNat_eq h
  unfold write8
  cases hreg : region a with
  | none => exact raise_keeps _ s
  | some r =>
    have hie := region_ie a
    have hrom := region_rom a
    have hio := region_io a
    rw [hreg] at hie hrom hio
    cases r <;> simp only
    case rom => exact ⟨Keeps.refl s, rfl⟩
    case ie =>
      refine ⟨?_, rfl⟩
      constructor <;> first | rfl | exact id
    case io =>
      have hb := hio.1 rfl
      unfold writeIo
      split
      · exact ⟨writePpu_keeps s a v, by simp⟩
      · next hp =>
        split
        · refine ⟨?_, rfl⟩
          constructor <;> first | rfl | exact id
        · next hif =>
          split
          · next hd =>
            have h := dmaCopy_keeps (wordOf v 0) 160 (s.storeMem 0xFF46 v) (by omega)
            have hst := storeMem_keeps s 0xFF46 v ⟨by omega, by omega, by omega, by decide⟩
            cases hr : dmaCopy (wordOf v 0) 160 (s.storeMem 0xFF46 v) with
            | ok w t =>
              rw [hr] at h
              exact ⟨hst.trans h.1, h.2⟩
            | raised info t =>
              rw [hr] at h
              exact ⟨hst.trans h.1, h.2⟩
          · refine ⟨storeMem_keeps s _ v ⟨by omega, by omega, by omega, ?_⟩, rfl⟩
            rw [ppuHeld_iff] at hp
            simp only [not_or] at hp
            simp only [List.mem_cons, List.not_mem_nil, or_false, not_or]
            refine ⟨fun e => hif (nif _ e), fun e => hp.1 (nif _ e), fun e => hp.2.1 (nif _ e),
              fun e => hp.2.2.1 (nif _ e), fun e => hp.2.2.2.1 (nif _ e), fun e => hp.2.2.2.2.1 (nif _ e),
              fun e => hp.2.2.2.2.2 (nif _ e)⟩
    all_goals
      simp only [reduceCtorEq, false_iff, Option.some.injEq] at hie hrom hio
      have hne : a.toNat ≠ 0xFFFF := fun e => hie (nif 0xFFFF e)
      refine ⟨storeMem_keeps s _ v ?_, rfl⟩
      unfold inStorage
      rw [home_toNat]
      simp only [List.mem_cons, List.not_mem_nil, or_false, not_or]
      split <;> omega

theorem read16_keeps (a : Word) (s : State) : (read16 a s).Keeps s := by
  unfold read16
  exact (read8_keeps a s).andThen fun lo u _ => (read8_keeps (a + 1) u).andThen fun hi t _ => ⟨Keeps.refl t, rfl⟩

theorem write16_keeps (a v : Word) (s : State) : (write16 a v s).Keeps s := by
  unfold write16
  exact (write8_keeps a _ s).andThen fun _ u _ => write8_keeps (a + 1) _ u

theorem setPC_keeps (s : State) (a : Word) : Keeps s (s.setPC a) := Keeps.of_regs s _ id

theorem writeF_keeps (s : State) (v : Byte) : Keeps s (s.writeF v) := Keeps.of_regs s _ fun _ => writeF_low s v

theorem setReg8_keeps (s : State) (r : Reg8) (v : Byte) : Keeps s (s.setReg8 r v) := by
  cases r <;> exact Keeps.of_regs s _ id

theorem setPair_keeps (s : State) (p : Pair) (v : Word) : Keeps s (s.setPair p v) := by
  cases p <;> exact Keeps.of_regs s _ id

theorem setHL_keeps (s : State) (v : Word) : Keeps s (s.setHL v) := Keeps.of_regs s _ id

theorem setStackPair_keeps (s : State) (q : StackPair) (v : Word) : Keeps s (s.setStackPair q v) := by
  cases q
  case af =>
    refine Keeps.of_regs s _ fun _ => ?_
    show lowByte v &&& 0xF0 &&& 0x0F = 0
    rw [BitVec.and_assoc]
    exact BitVec.and_zero
  all_goals exact Keeps.of_regs s _ id

theorem push16_keeps (v : Word) (s : State) : (push16 v s).Keeps s := by
  have h := write16_keeps (s.regs.sp - 2) v { s with regs := { s.regs with sp := s.regs.sp - 2 } }
  unfold push16
  simp only
  cases hr : write16 (s.regs.sp - 2) v { s with regs := { s.regs with sp := s.regs.sp - 2 } } with
  | ok w t =>
    rw [hr] at h
    exact ⟨(Keeps.of_regs s { s.regs with sp := s.regs.sp - 2 } id).trans h.1, h.2⟩
  | raised info t =>
    rw [hr] at h
    exact ⟨(Keeps.of_regs s { s.regs with sp := s.regs.sp - 2 } id).trans h.1, h.2⟩

theorem pop16_keeps (s : State) : (pop16 s).Keeps s := by
  unfold pop16
  exact (read16_keeps _ s).andThen fun v u _ => ⟨Keeps.of_regs u _ id, rfl⟩

theorem imm8_keeps (s : State) : (imm8 s).Keeps s := by
  unfold imm8
  exact (read8_keeps _ s).andThen fun v u _ => ⟨setPC_keeps u _, rfl⟩

theorem fetch_keeps (s : State) : (fetch s).Keeps s := by
  unfold fetch
  refine (imm8_keeps s).andThen fun op u _ => ?_
  split
  · exact ⟨Keeps.refl u, rfl⟩
  · exact (imm8_keeps u).andThen fun b1 t _ => ⟨Keeps.refl t, rfl⟩
  · exact (imm8_keeps u).andThen fun b1 t _ => (imm8_keeps t).andThen fun b2 w _ => ⟨Keeps.refl w, rfl⟩

theorem takeInterrupt_keeps (k : Nat) (s : State) : (takeInterrupt k s).Keeps s := by
  have h := push16_keeps s.regs.pc { s with ime := false }
  have h0 : Keeps s { s with ime := false } := by constructor <;> first | rfl | exact id
  unfold takeInterrupt
  cases hr : push16 s.regs.pc { s with ime := false } with
  | ok w t =>
    rw [hr] at h
    refine ⟨(h0.trans h.1).trans ((setPC_keeps t (vector k)).trans ?_), h.2⟩
    constructor <;> first | rfl | exact id
  | raised info t =>
    rw [hr] at h
    exact ⟨h0.trans h.1, h.2⟩

theorem returnFromInterrupt_keeps (s : State) : (returnFromInterrupt s).Keeps s := by
  unfold returnFromInterrupt
  refine (pop16_keeps s).andThen fun v u _ => ⟨(setPC_keeps u v).trans ?_, rfl⟩
  constructor <;> first | rfl | exact id

theorem irqStep_keeps (s : State) : (irqStep s).Keeps s := by
  unfold irqStep
  split
  · exact (takeInterrupt_keeps _ s).andThen fun _ u _ => ⟨Keeps.refl u, rfl⟩
  · exact ⟨Keeps.refl s, rfl⟩

end Sys2Proof.Machine
end

