-- ==== Sys2Proof/Laws/Ppu.lean ====
section
/-! SUPPORT. The PPU step pass by pass, what it leaves unchanged, and what rendering a line writes. -/

namespace Sys2Proof.Machine

/-! ## Rendering a line -/

/-- A line stays 160 pixels long whatever is drawn on it. -/
theorem drawColumn_length (s : State) (o : Sprite) (ly : Nat) (bg : List (BitVec 2)) (px : Line) (c : Nat) :
    (s.drawColumn o ly bg px c).length = px.length := by
  unfold State.drawColumn
  simp only
  repeat' split
  all_goals first | rfl | exact List.length_set

theorem drawColumns_length (s : State) (o : Sprite) (ly : Nat) (bg : List (BitVec 2)) (cs : List Nat) (px : Line) :
    (cs.foldl (s.drawColumn o ly bg) px).length = px.length := by
  induction cs generalizing px with
  | nil => rfl
  | cons c cs ih => exact (ih _).trans (drawColumn_length s o ly bg px c)

theorem drawSprite_length (s : State) (ly : Nat) (bg : List (BitVec 2)) (px : Line) (i : Nat) :
    (s.drawSprite ly bg px i).length = px.length := by
  unfold State.drawSprite
  simp only
  split
  · exact drawColumns_length s _ ly bg _ px
  · rfl

theorem drawSprites_length (s : State) (ly : Nat) (bg : List (BitVec 2)) (px : Line) :
    (s.drawSprites ly bg px).length = px.length := by
  unfold State.drawSprites
  split
  · generalize (List.range 40).reverse = is
    induction is generalizing px with
    | nil => rfl
    | cons i is ih => exact (ih _).trans (drawSprite_length s ly bg px i)
  · rfl

/-- Background on: the palette's entry. -/
theorem bgColour_on {s : State} (h : s.ppu.lcdc.getLsbD 0 = true) (idx : BitVec 2) : s.bgColour idx = s.ppu.bgPal.entry idx :=
  if_pos h

/-- Background off: the blank colour, and index 0 everywhere. -/
theorem bgColour_off {s : State} (h : s.ppu.lcdc.getLsbD 0 = false) (idx : BitVec 2) : s.bgColour idx = s.params.shade 0 := by
  simp only [State.bgColour, h, Bool.false_eq_true, if_false]

theorem bgIndex_off {s : State} (h : s.ppu.lcdc.getLsbD 0 = false) (ly x : Nat) : s.bgIndex ly x = 0 := by
  simp only [State.bgIndex, h, Bool.false_eq_true, if_false]

@[simp] theorem bgLine_length (s : State) (ly : Nat) : (s.bgLine ly).length = 160 := by simp [State.bgLine]

@[simp] theorem lineOf_length (s : State) (ly : Nat) : (s.lineOf ly).length = 160 := by
  simp [State.lineOf, drawSprites_length]

/-- With sprites off a line is its background. -/
theorem lineOf_sprites_off {s : State} (h : s.ppu.lcdc.getLsbD 1 = false) (ly x : Nat) (hx : x < 160) :
    (s.lineOf ly).getD x Rgb.black = s.bgColour (s.bgIndex ly x) := by
  simp only [State.lineOf, State.drawSprites, h, Bool.false_eq_true, if_false]
  simp [State.bgLine, hx]

/-- The line just rendered. -/
theorem renderLine_pixel_same (s : State) (ly x : Nat) :
    (s.renderLine ly).ppu.pixel ly x = (s.lineOf ly).getD x Rgb.black := by
  unfold Ppu.pixel State.renderLine
  rw [Sparse.get_set_same]

/-- Every other line. -/
theorem renderLine_pixel_ne (s : State) {ly y : Nat} (x : Nat) (h : y ≠ ly) :
    (s.renderLine ly).ppu.pixel y x = s.ppu.pixel y x := by
  unfold Ppu.pixel State.renderLine
  rw [Sparse.get_set_ne _ _ _ h]

/-- A framebuffer that is in order stays so. -/
theorem renderLine_screen (s : State) (ly : Nat) (hly : ly < 144) (h : s.ppu.fb.Ok) : (s.renderLine ly).ppu.fb.Ok := by
  constructor
  · exact Sparse.wf_set _ _ _ _ h.wf
  · intro c hc
    rcases Sparse.mem_set _ _ _ _ c hc with rfl | hc
    · exact ⟨hly, lineOf_length s ly⟩
    · exact h.lines c hc

/-! ## Passes of the step -/

theorem budget_ge (m : PpuMode) : 80 ≤ budget m := by cases m <;> decide

/-- A transition leaves the remainder of the dots. -/
@[simp] theorem transition_dots (s : State) : s.transition.ppu.dots = s.ppu.dots := by
  unfold State.transition State.enterVBlank State.renderLine
  simp only
  repeat' split
  all_goals rfl

/-- Any fuel that covers the dots gives the same end. -/
theorem ppuLoop_fuel : ∀ (n m : Nat) (s : State), s.ppu.dots / 80 ≤ n → s.ppu.dots / 80 ≤ m → ppuLoop n s = ppuLoop m s := by
  intro n
  induction n with
  | zero =>
    intro m s hn _
    cases m with
    | zero => rfl
    | succ m =>
      have := budget_ge s.ppu.mode
      rw [ppuLoop, ppuLoop, if_neg (by omega)]
  | succ n ih =>
    intro m s hn hm
    have hb := budget_ge s.ppu.mode
    cases m with
    | zero => rw [ppuLoop, ppuLoop, if_neg (by omega)]
    | succ m =>
      rw [ppuLoop, ppuLoop]
      split
      · apply ih <;> rw [transition_dots] <;> simp only <;> omega
      · rfl

/-- Below the budget only the dots move. -/
theorem ppuStep_below (c : Nat) (s : State) (h : s.ppu.dots + c < budget s.ppu.mode) :
    ppuStep c s = { s with ppu := { s.ppu with dots := s.ppu.dots + c } } := by
  unfold ppuStep
  simp only
  cases (s.ppu.dots + c) / 80 with
  | zero => rfl
  | succ n => rw [ppuLoop, if_neg (Nat.not_le.2 h)]

/-- At the budget or above it: one transition with the remainder, then the step of no further dots. -/
theorem ppuStep_pass (c : Nat) (s : State) (h : budget s.ppu.mode ≤ s.ppu.dots + c) :
    ppuStep c s =
      ppuStep 0 { s with ppu := { s.ppu with dots := s.ppu.dots + c - budget s.ppu.mode } }.transition := by
  have hb := budget_ge s.ppu.mode
  conv => lhs; unfold ppuStep
  simp only
  obtain ⟨n, hn⟩ : ∃ n, (s.ppu.dots + c) / 80 = n + 1 := ⟨(s.ppu.dots + c) / 80 - 1, by omega⟩
  rw [hn, ppuLoop, if_pos h]
  unfold ppuStep
  simp only [Nat.add_zero]
  apply ppuLoop_fuel
  · rw [transition_dots]
    show (s.ppu.dots + c - budget s.ppu.mode) / 80 ≤ n
    omega
  · exact Nat.le_refl _

/-- What a transition keeps, every number of transitions keeps: a property that no change of the dots touches and that every
transition keeps holds after the step. -/
theorem ppuStep_induction (P : State → Prop) (hd : ∀ s d, P s → P { s with ppu := { s.ppu with dots := d } })
    (ht : ∀ s, P s → P s.transition) (c : Nat) (s : State) (h : P s) : P (ppuStep c s) := by
  have key : ∀ n s, P s → P (ppuLoop n s) := by
    intro n
    induction n with
    | zero => exact fun s h => h
    | succ n ih =>
      intro s h
      rw [ppuLoop]
      split
      · exact ih _ (ht _ (hd _ _ h))
      · exact h
  exact key _ _ (hd _ _ h)

/-- What the PPU can touch: IF, and of the PPU the mode, LY, the dots, the pictures and the background indexes. -/
structure OnlyPpu (s t : State) : Prop where
  rest : t = { s with ifl := t.ifl, ppu := t.ppu }
  ppu : t.ppu = { s.ppu with
    mode := t.ppu.mode, ly := t.ppu.ly, dots := t.ppu.dots, fb := t.ppu.fb, bgidx := t.ppu.bgidx
    presented := t.ppu.presented }

theorem OnlyPpu.trans {s t u : State} (h : OnlyPpu s t) (k : OnlyPpu t u) : OnlyPpu s u where
  rest := by rw [k.rest, h.rest]
  ppu := by rw [k.ppu, h.ppu]

theorem transition_only (s : State) : OnlyPpu s s.transition := by
  unfold State.transition State.enterVBlank State.renderLine
  simp only
  repeat' split
  all_goals exact ⟨rfl, rfl⟩

theorem ppuStep_only (c : Nat) (s : State) : OnlyPpu s (ppuStep c s) :=
  ppuStep_induction (OnlyPpu s) (fun _ _ h => h.trans ⟨rfl, rfl⟩) (fun t h => h.trans (transition_only t)) c s ⟨rfl, rfl⟩

@[simp] theorem ppuStep_regs (c : Nat) (s : State) : (ppuStep c s).regs = s.regs := by rw [(ppuStep_only c s).rest]
@[simp] theorem ppuStep_ime (c : Nat) (s : State) : (ppuStep c s).ime = s.ime := by rw [(ppuStep_only c s).rest]
@[simp] theorem ppuStep_halted (c : Nat) (s : State) : (ppuStep c s).halted = s.halted := by rw [(ppuStep_only c s).rest]
@[simp] theorem ppuStep_fault (c : Nat) (s : State) : (ppuStep c s).fault = s.fault := by rw [(ppuStep_only c s).rest]
@[simp] theorem ppuStep_ie (c : Nat) (s : State) : (ppuStep c s).ie = s.ie := by rw [(ppuStep_only c s).rest]
@[simp] theorem ppuStep_rom (c : Nat) (s : State) : (ppuStep c s).rom = s.rom := by rw [(ppuStep_only c s).rest]
@[simp] theorem ppuStep_romSize (c : Nat) (s : State) : (ppuStep c s).romSize = s.romSize := by rw [(ppuStep_only c s).rest]
@[simp] theorem ppuStep_cartType (c : Nat) (s : State) : (ppuStep c s).cartType = s.cartType := by rw [(ppuStep_only c s).rest]
@[simp] theorem ppuStep_mem (c : Nat) (s : State) : (ppuStep c s).mem = s.mem := by rw [(ppuStep_only c s).rest]
@[simp] theorem ppuStep_totalCycles (c : Nat) (s : State) : (ppuStep c s).totalCycles = s.totalCycles := by rw [(ppuStep_only c s).rest]
@[simp] theorem ppuStep_params (c : Nat) (s : State) : (ppuStep c s).params = s.params := by rw [(ppuStep_only c s).rest]
@[simp] theorem ppuStep_cost (c : Nat) (s : State) : (ppuStep c s).cost = s.cost := by rw [(ppuStep_only c s).rest]
@[simp] theorem ppuStep_joypadDraws (c : Nat) (s : State) : (ppuStep c s).joypadDraws = s.joypadDraws := by rw [(ppuStep_only c s).rest]
@[simp] theorem ppuStep_rndDraws (c : Nat) (s : State) : (ppuStep c s).rndDraws = s.rndDraws := by rw [(ppuStep_only c s).rest]

end Sys2Proof.Machine
end

