-- ==== Sys2Proof/Laws/Scheduler.lean ====
section
/-! SUPPORT. What the interrupt step, the wake test, the end of an iteration and the fetch can do. -/

namespace Sys2Proof.Machine

/-- Taking an interrupt, where the two stack bytes can be written. -/
theorem takeInterrupt_ok (k : Nat) (s : State) (h : s.writable16 (s.regs.sp - 2) s.regs.pc) :
    ∃ u, Stored16 { s with ime := false } (s.regs.sp - 2) s.regs.pc u ∧
      takeInterrupt k s = .ok () { u with
        regs := { s.regs with sp := s.regs.sp - 2, pc := vector k }
        ifl := u.ifl &&& ~~~((1 : Byte) <<< k), cost := s.cost } := by
  obtain ⟨u, hu, hs, hr, hc⟩ := push16_ok s.regs.pc { s with ime := false } h
  refine ⟨u, hs, ?_⟩
  unfold takeInterrupt
  rw [hu]
  simp only [Res.andThen, State.setPC, hr]
  rw [← show u.cost = s.cost from hc]

/-- The return from an interrupt, where the two stack bytes can be read. -/
theorem returnFromInterrupt_ok (s : State) (h : s.readable16 s.regs.sp) :
    returnFromInterrupt s = .ok () { s.drawn16 s.regs.sp with
      regs := { s.regs with sp := s.regs.sp + 2, pc := s.readValue16 s.regs.sp }, ime := true } := by
  unfold returnFromInterrupt
  rw [pop16_ok s h]
  rfl

/-- The interrupt step where it services. -/
theorem irqStep_services (s : State) (hi : s.ime = true) (hp : s.pending ≠ 0)
    (h : s.writable16 (s.regs.sp - 2) s.regs.pc) :
    ∃ u, Stored16 { s with ime := false } (s.regs.sp - 2) s.regs.pc u ∧
      irqStep s = .ok 20 { u with
        regs := { s.regs with sp := s.regs.sp - 2, pc := vector (lowestSource s.pending) }
        ifl := u.ifl &&& ~~~((1 : Byte) <<< (lowestSource s.pending)), cost := s.cost } := by
  obtain ⟨u, hu, ht⟩ := takeInterrupt_ok (lowestSource s.pending) s h
  refine ⟨u, hu, ?_⟩
  unfold irqStep
  rw [if_pos ⟨hi, hp⟩, ht]
  rfl

/-- The interrupt step where it does nothing. -/
theorem irqStep_idle (s : State) (h : s.ime = false ∨ s.pending = 0) : irqStep s = .ok 0 s := by
  unfold irqStep
  rw [if_neg]
  rintro ⟨hi, hp⟩
  rcases h with h | h
  · rw [h] at hi
    exact Bool.noConfusion hi
  · exact hp h

/-- The wake test as one update. -/
theorem wake_eq (s : State) : s.wake = { s with halted := s.halted && decide (s.pending = 0) } := by
  unfold State.wake
  split
  · next h => rw [decide_eq_false h, Bool.and_false]
  · next h => rw [decide_eq_true (Classical.not_not.1 h), Bool.and_true]

/-- What the wake test leaves in the other fields is what was there. -/
theorem wake_keeps (s : State) : Keeps s s.wake := by
  rw [wake_eq]
  constructor <;> first | rfl | exact id

/-- The three ends of an iteration. -/
theorem finishIteration_cases (c : Nat) (s : State) :
    (∃ ic t, irqStep (ppuStep c s).wake = .ok ic t ∧
      finishIteration c s = .next { t with totalCycles := t.totalCycles + c + ic }) ∨
    ∃ info t, irqStep (ppuStep c s).wake = .raised info t ∧ finishIteration c s = .fault (.raised info t) := by
  unfold finishIteration
  cases irqStep (ppuStep c s).wake with
  | ok ic t => exact .inl ⟨ic, t, rfl, rfl⟩
  | raised info t => exact .inr ⟨info, t, rfl, rfl⟩

/-- The byte at PC, where it is readable. -/
theorem imm8_ok (s : State) (h : s.readable s.regs.pc) :
    imm8 s = .ok (s.readValue s.regs.pc) ((s.drawn s.regs.pc).setPC (s.regs.pc + 1)) := by
  unfold imm8
  rw [read8_ok _ _ h]
  simp [Res.andThen]

/-- The byte at PC, where it is not. -/
theorem imm8_raises (s : State) (h : ¬ s.readable s.regs.pc) :
    imm8 s = .raised (.romReadBeyondImage s.regs.pc) { s with fault := some (.romReadBeyondImage s.regs.pc) } := by
  unfold imm8
  rw [read8_raises _ _ h]
  rfl

/-- Every way a step can go, the guards included. -/
theorem step_cases (s : State) :
    (s.params.legal = false ∧ step s = .refused (.illegalRandomAddr s.params.randomAddr)) ∨
    (s.params.legal = true ∧ ((∃ info, s.fault = some info ∧ step s = .fault (.raised info s)) ∨
      (s.fault = none ∧ ((s.halted = true ∧ step s = finishIteration 4 s) ∨
        (s.halted = false ∧ ((∃ info t, fetch s = .raised info t ∧ step s = .fault (.raised info t)) ∨
          ∃ i t, fetch s = .ok i t ∧
            ((∃ u, exec i t = .next u ∧ step s = finishIteration u.cost u) ∨
              (∃ r, exec i t = .fault r ∧ step s = .fault r) ∨
              ∃ r, exec i t = .refused r ∧ step s = .refused r))))))) := by
  unfold step
  cases hl : s.params.legal with
  | false => exact .inl ⟨rfl, by rw [if_neg Bool.false_ne_true]⟩
  | true =>
    refine .inr ⟨rfl, ?_⟩
    rw [if_pos rfl]
    cases hf : s.fault with
    | some info => exact .inl ⟨info, rfl, rfl⟩
    | none =>
      refine .inr ⟨rfl, ?_⟩
      cases hh : s.halted with
      | true => exact .inl ⟨rfl, by simp only [if_true]; rfl⟩
      | false =>
        refine .inr ⟨rfl, ?_⟩
        simp only [Bool.false_eq_true, if_false]
        cases hx : fetch s with
        | raised info t => exact .inl ⟨info, t, rfl, rfl⟩
        | ok i t =>
          refine .inr ⟨i, t, rfl, ?_⟩
          simp only
          cases he : exec i t with
          | next u => exact .inl ⟨u, rfl, rfl⟩
          | fault r => exact .inr (.inl ⟨r, rfl, rfl⟩)
          | refused r => exact .inr (.inr ⟨r, rfl, rfl⟩)

end Sys2Proof.Machine
end

