-- ==== Sys2Proof/Tests/Slice0.lean ====
section
/-! SUPPORT. Tests of one step or one operation on small states, with expected values from 95_test_vectors.md (the section
is named beside each group) or worked out from the rule cited; decoding words written out from the encodings of the
spec's opcode tables; and the witnesses of the statements' hypotheses. -/

open Sys2Proof Sys2Proof.Machine

set_option Elab.async false

namespace Sys2Proof.Tests

/-! ## Well-formed terms -/

theorem test_wellFormed_refuses_prefix_term : wellFormed (.prefix_CB 0x37) = false := by decide
theorem test_wellFormed_accepts_others : [Instr.nop, .stop, .undefined_FD, .ld_SP_d16 0xFFFF, .swap_A].all wellFormed = true := by decide

/-! ## Decoding: every constructor by a word written out from the tables of 40_load.md to 45_cb_bitops.md (R119, R108) -/

/-- Each list of bytes is exactly the instruction beside it. -/
def decodesTo (l : List (List Byte × Instr)) : Prop := l.map (fun p => decode p.1) = l.map (fun p => .ok (p.2, []))

theorem test_decode_0x : decodesTo [
    ([0b00000000], .nop), ([0b00000001, 0x34, 0x92], .ld_BC_d16 0x9234), ([0b00000010], .ld_atBC_A),
    ([0b00000011], .inc_BC), ([0b00000100], .inc_B), ([0b00000101], .dec_B), ([0b00000110, 0xA5], .ld_B_d8 0xA5),
    ([0b00000111], .rlca), ([0b00001000, 0x34, 0x92], .ld_atA16_SP 0x9234), ([0b00001001], .add_HL_BC),
    ([0b00001010], .ld_A_atBC), ([0b00001011], .dec_BC), ([0b00001100], .inc_C), ([0b00001101], .dec_C),
    ([0b00001110, 0xA5], .ld_C_d8 0xA5), ([0b00001111], .rrca)] := rfl

theorem test_decode_1x : decodesTo [
    ([0b00010000, 0x00], .stop), ([0b00010001, 0x34, 0x92], .ld_DE_d16 0x9234), ([0b00010010], .ld_atDE_A),
    ([0b00010011], .inc_DE), ([0b00010100], .inc_D), ([0b00010101], .dec_D), ([0b00010110, 0xA5], .ld_D_d8 0xA5),
    ([0b00010111], .rla), ([0b00011000, 0xA5], .jr_e8 0xA5), ([0b00011001], .add_HL_DE), ([0b00011010], .ld_A_atDE),
    ([0b00011011], .dec_DE), ([0b00011100], .inc_E), ([0b00011101], .dec_E), ([0b00011110, 0xA5], .ld_E_d8 0xA5),
    ([0b00011111], .rra)] := rfl

theorem test_decode_2x : decodesTo [
    ([0b00100000, 0xA5], .jr_NZ_e8 0xA5), ([0b00100001, 0x34, 0x92], .ld_HL_d16 0x9234),
    ([0b00100010], .ld_atHLInc_A), ([0b00100011], .inc_HL), ([0b00100100], .inc_H), ([0b00100101], .dec_H),
    ([0b00100110, 0xA5], .ld_H_d8 0xA5), ([0b00100111], .daa), ([0b00101000, 0xA5], .jr_Z_e8 0xA5),
    ([0b00101001], .add_HL_HL), ([0b00101010], .ld_A_atHLInc), ([0b00101011], .dec_HL), ([0b00101100], .inc_L),
    ([0b00101101], .dec_L), ([0b00101110, 0xA5], .ld_L_d8 0xA5), ([0b00101111], .cpl)] := rfl

theorem test_decode_3x : decodesTo [
    ([0b00110000, 0xA5], .jr_NC_e8 0xA5), ([0b00110001, 0x34, 0x92], .ld_SP_d16 0x9234),
    ([0b00110010], .ld_atHLDec_A), ([0b00110011], .inc_SP), ([0b00110100], .inc_atHL), ([0b00110101], .dec_atHL),
    ([0b00110110, 0xA5], .ld_atHL_d8 0xA5), ([0b00110111], .scf), ([0b00111000, 0xA5], .jr_C_e8 0xA5),
    ([0b00111001], .add_HL_SP), ([0b00111010], .ld_A_atHLDec), ([0b00111011], .dec_SP), ([0b00111100], .inc_A),
    ([0b00111101], .dec_A), ([0b00111110, 0xA5], .ld_A_d8 0xA5), ([0b00111111], .ccf)] := rfl

theorem test_decode_4x : decodesTo [
    ([0b01000000], .ld_B_B), ([0b01000001], .ld_B_C), ([0b01000010], .ld_B_D), ([0b01000011], .ld_B_E),
    ([0b01000100], .ld_B_H), ([0b01000101], .ld_B_L), ([0b01000110], .ld_B_atHL), ([0b01000111], .ld_B_A),
    ([0b01001000], .ld_C_B), ([0b01001001], .ld_C_C), ([0b01001010], .ld_C_D), ([0b01001011], .ld_C_E),
    ([0b01001100], .ld_C_H), ([0b01001101], .ld_C_L), ([0b01001110], .ld_C_atHL), ([0b01001111], .ld_C_A)] := rfl

theorem test_decode_5x : decodesTo [
    ([0b01010000], .ld_D_B), ([0b01010001], .ld_D_C), ([0b01010010], .ld_D_D), ([0b01010011], .ld_D_E),
    ([0b01010100], .ld_D_H), ([0b01010101], .ld_D_L), ([0b01010110], .ld_D_atHL), ([0b01010111], .ld_D_A),
    ([0b01011000], .ld_E_B), ([0b01011001], .ld_E_C), ([0b01011010], .ld_E_D), ([0b01011011], .ld_E_E),
    ([0b01011100], .ld_E_H), ([0b01011101], .ld_E_L), ([0b01011110], .ld_E_atHL), ([0b01011111], .ld_E_A)] := rfl

theorem test_decode_6x : decodesTo [
    ([0b01100000], .ld_H_B), ([0b01100001], .ld_H_C), ([0b01100010], .ld_H_D), ([0b01100011], .ld_H_E),
    ([0b01100100], .ld_H_H), ([0b01100101], .ld_H_L), ([0b01100110], .ld_H_atHL), ([0b01100111], .ld_H_A),
    ([0b01101000], .ld_L_B), ([0b01101001], .ld_L_C), ([0b01101010], .ld_L_D), ([0b01101011], .ld_L_E),
    ([0b01101100], .ld_L_H), ([0b01101101], .ld_L_L), ([0b01101110], .ld_L_atHL), ([0b01101111], .ld_L_A)] := rfl

theorem test_decode_7x : decodesTo [
    ([0b01110000], .ld_atHL_B), ([0b01110001], .ld_atHL_C), ([0b01110010], .ld_atHL_D), ([0b01110011], .ld_atHL_E),
    ([0b01110100], .ld_atHL_H), ([0b01110101], .ld_atHL_L), ([0b01110110], .halt), ([0b01110111], .ld_atHL_A),
    ([0b01111000], .ld_A_B), ([0b01111001], .ld_A_C), ([0b01111010], .ld_A_D), ([0b01111011], .ld_A_E),
    ([0b01111100], .ld_A_H), ([0b01111101], .ld_A_L), ([0b01111110], .ld_A_atHL), ([0b01111111], .ld_A_A)] := rfl

theorem test_decode_8x : decodesTo [
    ([0b10000000], .add_A_B), ([0b10000001], .add_A_C), ([0b10000010], .add_A_D), ([0b10000011], .add_A_E),
    ([0b10000100], .add_A_H), ([0b10000101], .add_A_L), ([0b10000110], .add_A_atHL), ([0b10000111], .add_A_A),
    ([0b10001000], .adc_A_B), ([0b10001001], .adc_A_C), ([0b10001010], .adc_A_D), ([0b10001011], .adc_A_E),
    ([0b10001100], .adc_A_H), ([0b10001101], .adc_A_L), ([0b10001110], .adc_A_atHL), ([0b10001111], .adc_A_A)] := rfl

theorem test_decode_9x : decodesTo [
    ([0b10010000], .sub_B), ([0b10010001], .sub_C), ([0b10010010], .sub_D), ([0b10010011], .sub_E),
    ([0b10010100], .sub_H), ([0b10010101], .sub_L), ([0b10010110], .sub_atHL), ([0b10010111], .sub_A),
    ([0b10011000], .sbc_A_B), ([0b10011001], .sbc_A_C), ([0b10011010], .sbc_A_D), ([0b10011011], .sbc_A_E),
    ([0b10011100], .sbc_A_H), ([0b10011101], .sbc_A_L), ([0b10011110], .sbc_A_atHL), ([0b10011111], .sbc_A_A)] := rfl

theorem test_decode_Ax : decodesTo [
    ([0b10100000], .and_B), ([0b10100001], .and_C), ([0b10100010], .and_D), ([0b10100011], .and_E),
    ([0b10100100], .and_H), ([0b10100101], .and_L), ([0b10100110], .and_atHL), ([0b10100111], .and_A),
    ([0b10101000], .xor_B), ([0b10101001], .xor_C), ([0b10101010], .xor_D), ([0b10101011], .xor_E),
    ([0b10101100], .xor_H), ([0b10101101], .xor_L), ([0b10101110], .xor_atHL), ([0b10101111], .xor_A)] := rfl

theorem test_decode_Bx : decodesTo [
    ([0b10110000], .or_B), ([0b10110001], .or_C), ([0b10110010], .or_D), ([0b10110011], .or_E),
    ([0b10110100], .or_H), ([0b10110101], .or_L), ([0b10110110], .or_atHL), ([0b10110111], .or_A),
    ([0b10111000], .cp_B), ([0b10111001], .cp_C), ([0b10111010], .cp_D), ([0b10111011], .cp_E),
    ([0b10111100], .cp_H), ([0b10111101], .cp_L), ([0b10111110], .cp_atHL), ([0b10111111], .cp_A)] := rfl

theorem test_decode_Cx : decodesTo [
    ([0b11000000], .ret_NZ), ([0b11000001], .pop_BC), ([0b11000010, 0x34, 0x92], .jp_NZ_a16 0x9234),
    ([0b11000011, 0x34, 0x92], .jp_a16 0x9234), ([0b11000100, 0x34, 0x92], .call_NZ_a16 0x9234),
    ([0b11000101], .push_BC), ([0b11000110, 0xA5], .add_A_d8 0xA5), ([0b11000111], .rst_00), ([0b11001000], .ret_Z),
    ([0b11001001], .ret), ([0b11001010, 0x34, 0x92], .jp_Z_a16 0x9234),
    ([0b11001100, 0x34, 0x92], .call_Z_a16 0x9234), ([0b11001101, 0x34, 0x92], .call_a16 0x9234),
    ([0b11001110, 0xA5], .adc_A_d8 0xA5), ([0b11001111], .rst_08)] := rfl

theorem test_decode_Dx : decodesTo [
    ([0b11010000], .ret_NC), ([0b11010001], .pop_DE), ([0b11010010, 0x34, 0x92], .jp_NC_a16 0x9234),
    ([0b11010011], .undefined_D3), ([0b11010100, 0x34, 0x92], .call_NC_a16 0x9234), ([0b11010101], .push_DE),
    ([0b11010110, 0xA5], .sub_d8 0xA5), ([0b11010111], .rst_10), ([0b11011000], .ret_C), ([0b11011001], .reti),
    ([0b11011010, 0x34, 0x92], .jp_C_a16 0x9234), ([0b11011011], .undefined_DB),
    ([0b11011100, 0x34, 0x92], .call_C_a16 0x9234), ([0b11011101], .undefined_DD),
    ([0b11011110, 0xA5], .sbc_A_d8 0xA5), ([0b11011111], .rst_18)] := rfl

theorem test_decode_Ex : decodesTo [
    ([0b11100000, 0xA5], .ldh_atA8_A 0xA5), ([0b11100001], .pop_HL), ([0b11100010], .ld_atC_A),
    ([0b11100011], .undefined_E3), ([0b11100100], .undefined_E4), ([0b11100101], .push_HL),
    ([0b11100110, 0xA5], .and_d8 0xA5), ([0b11100111], .rst_20), ([0b11101000, 0xA5], .add_SP_e8 0xA5),
    ([0b11101001], .jp_atHL), ([0b11101010, 0x34, 0x92], .ld_atA16_A 0x9234), ([0b11101011], .undefined_EB),
    ([0b11101100], .undefined_EC), ([0b11101101], .undefined_ED), ([0b11101110, 0xA5], .xor_d8 0xA5),
    ([0b11101111], .rst_28)] := rfl

theorem test_decode_Fx : decodesTo [
    ([0b11110000, 0xA5], .ldh_A_atA8 0xA5), ([0b11110001], .pop_AF), ([0b11110010], .ld_A_atC), ([0b11110011], .di),
    ([0b11110100], .undefined_F4), ([0b11110101], .push_AF), ([0b11110110, 0xA5], .or_d8 0xA5),
    ([0b11110111], .rst_30), ([0b11111000, 0xA5], .ld_HL_SPe8 0xA5), ([0b11111001], .ld_SP_HL),
    ([0b11111010, 0x34, 0x92], .ld_A_atA16 0x9234), ([0b11111011], .ei), ([0b11111100], .undefined_FC),
    ([0b11111101], .undefined_FD), ([0b11111110, 0xA5], .cp_d8 0xA5), ([0b11111111], .rst_38)] := rfl

theorem test_decode_CB_0x : decodesTo [
    ([0b11001011, 0b00000000], .rlc_B), ([0b11001011, 0b00000001], .rlc_C), ([0b11001011, 0b00000010], .rlc_D),
    ([0b11001011, 0b00000011], .rlc_E), ([0b11001011, 0b00000100], .rlc_H), ([0b11001011, 0b00000101], .rlc_L),
    ([0b11001011, 0b00000110], .rlc_atHL), ([0b11001011, 0b00000111], .rlc_A), ([0b11001011, 0b00001000], .rrc_B),
    ([0b11001011, 0b00001001], .rrc_C), ([0b11001011, 0b00001010], .rrc_D), ([0b11001011, 0b00001011], .rrc_E),
    ([0b11001011, 0b00001100], .rrc_H), ([0b11001011, 0b00001101], .rrc_L), ([0b11001011, 0b00001110], .rrc_atHL),
    ([0b11001011, 0b00001111], .rrc_A)] := rfl

theorem test_decode_CB_1x : decodesTo [
    ([0b11001011, 0b00010000], .rl_B), ([0b11001011, 0b00010001], .rl_C), ([0b11001011, 0b00010010], .rl_D),
    ([0b11001011, 0b00010011], .rl_E), ([0b11001011, 0b00010100], .rl_H), ([0b11001011, 0b00010101], .rl_L),
    ([0b11001011, 0b00010110], .rl_atHL), ([0b11001011, 0b00010111], .rl_A), ([0b11001011, 0b00011000], .rr_B),
    ([0b11001011, 0b00011001], .rr_C), ([0b11001011, 0b00011010], .rr_D), ([0b11001011, 0b00011011], .rr_E),
    ([0b11001011, 0b00011100], .rr_H), ([0b11001011, 0b00011101], .rr_L), ([0b11001011, 0b00011110], .rr_atHL),
    ([0b11001011, 0b00011111], .rr_A)] := rfl

theorem test_decode_CB_2x : decodesTo [
    ([0b11001011, 0b00100000], .sla_B), ([0b11001011, 0b00100001], .sla_C), ([0b11001011, 0b00100010], .sla_D),
    ([0b11001011, 0b00100011], .sla_E), ([0b11001011, 0b00100100], .sla_H), ([0b11001011, 0b00100101], .sla_L),
    ([0b11001011, 0b00100110], .sla_atHL), ([0b11001011, 0b00100111], .sla_A), ([0b11001011, 0b00101000], .sra_B),
    ([0b11001011, 0b00101001], .sra_C), ([0b11001011, 0b00101010], .sra_D), ([0b11001011, 0b00101011], .sra_E),
    ([0b11001011, 0b00101100], .sra_H), ([0b11001011, 0b00101101], .sra_L), ([0b11001011, 0b00101110], .sra_atHL),
    ([0b11001011, 0b00101111], .sra_A)] := rfl

theorem test_decode_CB_3x : decodesTo [
    ([0b11001011, 0b00110000], .swap_B), ([0b11001011, 0b00110001], .swap_C), ([0b11001011, 0b00110010], .swap_D),
    ([0b11001011, 0b00110011], .swap_E), ([0b11001011, 0b00110100], .swap_H), ([0b11001011, 0b00110101], .swap_L),
    ([0b11001011, 0b00110110], .swap_atHL), ([0b11001011, 0b00110111], .swap_A), ([0b11001011, 0b00111000], .srl_B),
    ([0b11001011, 0b00111001], .srl_C), ([0b11001011, 0b00111010], .srl_D), ([0b11001011, 0b00111011], .srl_E),
    ([0b11001011, 0b00111100], .srl_H), ([0b11001011, 0b00111101], .srl_L), ([0b11001011, 0b00111110], .srl_atHL),
    ([0b11001011, 0b00111111], .srl_A)] := rfl

theorem test_decode_CB_4x : decodesTo [
    ([0b11001011, 0b01000000], .bit_0_B), ([0b11001011, 0b01000001], .bit_0_C), ([0b11001011, 0b01000010], .bit_0_D),
    ([0b11001011, 0b01000011], .bit_0_E), ([0b11001011, 0b01000100], .bit_0_H), ([0b11001011, 0b01000101], .bit_0_L),
    ([0b11001011, 0b01000110], .bit_0_atHL), ([0b11001011, 0b01000111], .bit_0_A),
    ([0b11001011, 0b01001000], .bit_1_B), ([0b11001011, 0b01001001], .bit_1_C), ([0b11001011, 0b01001010], .bit_1_D),
    ([0b11001011, 0b01001011], .bit_1_E), ([0b11001011, 0b01001100], .bit_1_H), ([0b11001011, 0b01001101], .bit_1_L),
    ([0b11001011, 0b01001110], .bit_1_atHL), ([0b11001011, 0b01001111], .bit_1_A)] := rfl

theorem test_decode_CB_5x : decodesTo [
    ([0b11001011, 0b01010000], .bit_2_B), ([0b11001011, 0b01010001], .bit_2_C), ([0b11001011, 0b01010010], .bit_2_D),
    ([0b11001011, 0b01010011], .bit_2_E), ([0b11001011, 0b01010100], .bit_2_H), ([0b11001011, 0b01010101], .bit_2_L),
    ([0b11001011, 0b01010110], .bit_2_atHL), ([0b11001011, 0b01010111], .bit_2_A),
    ([0b11001011, 0b01011000], .bit_3_B), ([0b11001011, 0b01011001], .bit_3_C), ([0b11001011, 0b01011010], .bit_3_D),
    ([0b11001011, 0b01011011], .bit_3_E), ([0b11001011, 0b01011100], .bit_3_H), ([0b11001011, 0b01011101], .bit_3_L),
    ([0b11001011, 0b01011110], .bit_3_atHL), ([0b11001011, 0b01011111], .bit_3_A)] := rfl

theorem test_decode_CB_6x : decodesTo [
    ([0b11001011, 0b01100000], .bit_4_B), ([0b11001011, 0b01100001], .bit_4_C), ([0b11001011, 0b01100010], .bit_4_D),
    ([0b11001011, 0b01100011], .bit_4_E), ([0b11001011, 0b01100100], .bit_4_H), ([0b11001011, 0b01100101], .bit_4_L),
    ([0b11001011, 0b01100110], .bit_4_atHL), ([0b11001011, 0b01100111], .bit_4_A),
    ([0b11001011, 0b01101000], .bit_5_B), ([0b11001011, 0b01101001], .bit_5_C), ([0b11001011, 0b01101010], .bit_5_D),
    ([0b11001011, 0b01101011], .bit_5_E), ([0b11001011, 0b01101100], .bit_5_H), ([0b11001011, 0b01101101], .bit_5_L),
    ([0b11001011, 0b01101110], .bit_5_atHL), ([0b11001011, 0b01101111], .bit_5_A)] := rfl

theorem test_decode_CB_7x : decodesTo [
    ([0b11001011, 0b01110000], .bit_6_B), ([0b11001011, 0b01110001], .bit_6_C), ([0b11001011, 0b01110010], .bit_6_D),
    ([0b11001011, 0b01110011], .bit_6_E), ([0b11001011, 0b01110100], .bit_6_H), ([0b11001011, 0b01110101], .bit_6_L),
    ([0b11001011, 0b01110110], .bit_6_atHL), ([0b11001011, 0b01110111], .bit_6_A),
    ([0b11001011, 0b01111000], .bit_7_B), ([0b11001011, 0b01111001], .bit_7_C), ([0b11001011, 0b01111010], .bit_7_D),
    ([0b11001011, 0b01111011], .bit_7_E), ([0b11001011, 0b01111100], .bit_7_H), ([0b11001011, 0b01111101], .bit_7_L),
    ([0b11001011, 0b01111110], .bit_7_atHL), ([0b11001011, 0b01111111], .bit_7_A)] := rfl

theorem test_decode_CB_8x : decodesTo [
    ([0b11001011, 0b10000000], .res_0_B), ([0b11001011, 0b10000001], .res_0_C), ([0b11001011, 0b10000010], .res_0_D),
    ([0b11001011, 0b10000011], .res_0_E), ([0b11001011, 0b10000100], .res_0_H), ([0b11001011, 0b10000101], .res_0_L),
    ([0b11001011, 0b10000110], .res_0_atHL), ([0b11001011, 0b10000111], .res_0_A),
    ([0b11001011, 0b10001000], .res_1_B), ([0b11001011, 0b10001001], .res_1_C), ([0b11001011, 0b10001010], .res_1_D),
    ([0b11001011, 0b10001011], .res_1_E), ([0b11001011, 0b10001100], .res_1_H), ([0b11001011, 0b10001101], .res_1_L),
    ([0b11001011, 0b10001110], .res_1_atHL), ([0b11001011, 0b10001111], .res_1_A)] := rfl

theorem test_decode_CB_9x : decodesTo [
    ([0b11001011, 0b10010000], .res_2_B), ([0b11001011, 0b10010001], .res_2_C), ([0b11001011, 0b10010010], .res_2_D),
    ([0b11001011, 0b10010011], .res_2_E), ([0b11001011, 0b10010100], .res_2_H), ([0b11001011, 0b10010101], .res_2_L),
    ([0b11001011, 0b10010110], .res_2_atHL), ([0b11001011, 0b10010111], .res_2_A),
    ([0b11001011, 0b10011000], .res_3_B), ([0b11001011, 0b10011001], .res_3_C), ([0b11001011, 0b10011010], .res_3_D),
    ([0b11001011, 0b10011011], .res_3_E), ([0b11001011, 0b10011100], .res_3_H), ([0b11001011, 0b10011101], .res_3_L),
    ([0b11001011, 0b10011110], .res_3_atHL), ([0b11001011, 0b10011111], .res_3_A)] := rfl

theorem test_decode_CB_Ax : decodesTo [
    ([0b11001011, 0b10100000], .res_4_B), ([0b11001011, 0b10100001], .res_4_C), ([0b11001011, 0b10100010], .res_4_D),
    ([0b11001011, 0b10100011], .res_4_E), ([0b11001011, 0b10100100], .res_4_H), ([0b11001011, 0b10100101], .res_4_L),
    ([0b11001011, 0b10100110], .res_4_atHL), ([0b11001011, 0b10100111], .res_4_A),
    ([0b11001011, 0b10101000], .res_5_B), ([0b11001011, 0b10101001], .res_5_C), ([0b11001011, 0b10101010], .res_5_D),
    ([0b11001011, 0b10101011], .res_5_E), ([0b11001011, 0b10101100], .res_5_H), ([0b11001011, 0b10101101], .res_5_L),
    ([0b11001011, 0b10101110], .res_5_atHL), ([0b11001011, 0b10101111], .res_5_A)] := rfl

theorem test_decode_CB_Bx : decodesTo [
    ([0b11001011, 0b10110000], .res_6_B), ([0b11001011, 0b10110001], .res_6_C), ([0b11001011, 0b10110010], .res_6_D),
    ([0b11001011, 0b10110011], .res_6_E), ([0b11001011, 0b10110100], .res_6_H), ([0b11001011, 0b10110101], .res_6_L),
    ([0b11001011, 0b10110110], .res_6_atHL), ([0b11001011, 0b10110111], .res_6_A),
    ([0b11001011, 0b10111000], .res_7_B), ([0b11001011, 0b10111001], .res_7_C), ([0b11001011, 0b10111010], .res_7_D),
    ([0b11001011, 0b10111011], .res_7_E), ([0b11001011, 0b10111100], .res_7_H), ([0b11001011, 0b10111101], .res_7_L),
    ([0b11001011, 0b10111110], .res_7_atHL), ([0b11001011, 0b10111111], .res_7_A)] := rfl

theorem test_decode_CB_Cx : decodesTo [
    ([0b11001011, 0b11000000], .set_0_B), ([0b11001011, 0b11000001], .set_0_C), ([0b11001011, 0b11000010], .set_0_D),
    ([0b11001011, 0b11000011], .set_0_E), ([0b11001011, 0b11000100], .set_0_H), ([0b11001011, 0b11000101], .set_0_L),
    ([0b11001011, 0b11000110], .set_0_atHL), ([0b11001011, 0b11000111], .set_0_A),
    ([0b11001011, 0b11001000], .set_1_B), ([0b11001011, 0b11001001], .set_1_C), ([0b11001011, 0b11001010], .set_1_D),
    ([0b11001011, 0b11001011], .set_1_E), ([0b11001011, 0b11001100], .set_1_H), ([0b11001011, 0b11001101], .set_1_L),
    ([0b11001011, 0b11001110], .set_1_atHL), ([0b11001011, 0b11001111], .set_1_A)] := rfl

theorem test_decode_CB_Dx : decodesTo [
    ([0b11001011, 0b11010000], .set_2_B), ([0b11001011, 0b11010001], .set_2_C), ([0b11001011, 0b11010010], .set_2_D),
    ([0b11001011, 0b11010011], .set_2_E), ([0b11001011, 0b11010100], .set_2_H), ([0b11001011, 0b11010101], .set_2_L),
    ([0b11001011, 0b11010110], .set_2_atHL), ([0b11001011, 0b11010111], .set_2_A),
    ([0b11001011, 0b11011000], .set_3_B), ([0b11001011, 0b11011001], .set_3_C), ([0b11001011, 0b11011010], .set_3_D),
    ([0b11001011, 0b11011011], .set_3_E), ([0b11001011, 0b11011100], .set_3_H), ([0b11001011, 0b11011101], .set_3_L),
    ([0b11001011, 0b11011110], .set_3_atHL), ([0b11001011, 0b11011111], .set_3_A)] := rfl

theorem test_decode_CB_Ex : decodesTo [
    ([0b11001011, 0b11100000], .set_4_B), ([0b11001011, 0b11100001], .set_4_C), ([0b11001011, 0b11100010], .set_4_D),
    ([0b11001011, 0b11100011], .set_4_E), ([0b11001011, 0b11100100], .set_4_H), ([0b11001011, 0b11100101], .set_4_L),
    ([0b11001011, 0b11100110], .set_4_atHL), ([0b11001011, 0b11100111], .set_4_A),
    ([0b11001011, 0b11101000], .set_5_B), ([0b11001011, 0b11101001], .set_5_C), ([0b11001011, 0b11101010], .set_5_D),
    ([0b11001011, 0b11101011], .set_5_E), ([0b11001011, 0b11101100], .set_5_H), ([0b11001011, 0b11101101], .set_5_L),
    ([0b11001011, 0b11101110], .set_5_atHL), ([0b11001011, 0b11101111], .set_5_A)] := rfl

theorem test_decode_CB_Fx : decodesTo [
    ([0b11001011, 0b11110000], .set_6_B), ([0b11001011, 0b11110001], .set_6_C), ([0b11001011, 0b11110010], .set_6_D),
    ([0b11001011, 0b11110011], .set_6_E), ([0b11001011, 0b11110100], .set_6_H), ([0b11001011, 0b11110101], .set_6_L),
    ([0b11001011, 0b11110110], .set_6_atHL), ([0b11001011, 0b11110111], .set_6_A),
    ([0b11001011, 0b11111000], .set_7_B), ([0b11001011, 0b11111001], .set_7_C), ([0b11001011, 0b11111010], .set_7_D),
    ([0b11001011, 0b11111011], .set_7_E), ([0b11001011, 0b11111100], .set_7_H), ([0b11001011, 0b11111101], .set_7_L),
    ([0b11001011, 0b11111110], .set_7_atHL), ([0b11001011, 0b11111111], .set_7_A)] := rfl

/-- The prefix row is the table's reading of the byte 0xCB alone (R113; log 13). -/
theorem test_decode_prefix_row : decodeTableWord 8 0xCB = some (.prefix_CB 0x00) := by rfl
theorem test_decode_truncated :
    [[], [0xCB], [0x3E], [0xC3, 0x00]].map decode = [.error .truncated, .error .truncated, .error .truncated, .error .truncated] := by
  rfl
/-- The table numbers an extended row's word with its prefix byte above (R101; log 14). -/
theorem test_decode_table_words :
    decodeTableWord 16 0xCB37 = some .swap_A ∧ decodeTableWord 8 0x31 = some (.ld_SP_d16 0) ∧
      decodeTableWord 8 0x10 = some .stop := by refine ⟨?_, ?_, ?_⟩ <;> rfl

/-! ## Single steps -/

/-- One iteration of the bytes at 0x0100 from the state after reset, changed by `f` before it. -/
def run1 (bytes : List Byte) (f : State → State := id) : Option State :=
  match step (f (State.reset.placeBytes 0x0100 bytes)) with
  | .next t => some t
  | _ => none

/-- The fault an iteration ends with. -/
def faultOf (s : State) : Option FaultInfo :=
  match step s with
  | .fault (.raised info _) => some info
  | _ => none

/-- A, F, PC and the cycles. -/
def afOf (o : Option State) : Option (Byte × Byte × Word × Nat) := o.map fun t => (t.regs.a, t.regs.f, t.regs.pc, t.totalCycles)

def withRegs (f : Regs → Regs) (s : State) : State := { s with regs := f s.regs }
def withByte (a : Word) (v : Byte) (s : State) : State := s.placeByte a v

/-! ### Loads and stack (section 2) -/

theorem test_ld_r_r : (run1 [0x41] (withRegs fun r => { r with c := 0x5A })).map (fun t => (t.regs.b, t.regs.f)) = some (0x5A, 0xB0) := by
  decide +kernel
theorem test_store_through_mirror :
    (run1 [0x70] (withRegs fun r => { r with b := 0x33, h := 0xE0, l := 0x05 })).map (fun t => t.stored 0xC005) = some 0x33 := by
  decide +kernel
theorem test_rom_write_dropped :
    (run1 [0xEA, 0x00, 0x20] (withRegs fun r => { r with a := 0x55 })).map (fun t => (t.stored 0x2000, t.regs.pc)) = some (0x00, 0x0103) := by
  decide +kernel
theorem test_ldi_wraps_hl_and_writes_ie :
    (run1 [0x22] (withRegs fun r => { r with a := 0x1F, h := 0xFF, l := 0xFF })).map (fun t => (t.hl, t.ie)) = some (0x0000, 0x1F) := by
  decide +kernel
theorem test_ldd_borrows_into_h :
    (run1 [0x3A] (fun s => withRegs (fun r => { r with h := 0xC0, l := 0x00 }) (withByte 0xC000 0x12 s))).map (fun t => (t.regs.a, t.hl)) =
      some (0x12, 0xBFFF) := by decide +kernel
theorem test_ld_a16_sp :
    (run1 [0x08, 0x00, 0xC0] (withRegs fun r => { r with sp := 0xFFF8 })).map (fun t => (t.stored 0xC000, t.stored 0xC001, t.totalCycles)) =
      some (0xF8, 0xFF, 20) := by decide +kernel
theorem test_push_af :
    (run1 [0xF5] (withRegs fun r => { r with a := 0x12 })).map (fun t => (t.stored 0xFFFC, t.stored 0xFFFD, t.regs.sp)) =
      some (0xB0, 0x12, 0xFFFC) := by decide +kernel
theorem test_pop_af_drops_low_nibble :
    (run1 [0xF1] (fun s => withRegs (fun r => { r with sp := 0xC000 }) (withByte 0xC001 0x12 (withByte 0xC000 0xFF s)))).map
      (fun t => (t.regs.a, t.regs.f, t.regs.sp)) = some (0x12, 0xF0, 0xC002) := by decide +kernel
theorem test_ldh_starts_dma :
    (run1 [0xE0, 0x46] (fun s => withRegs (fun r => { r with a := 0xC0 })
        (withByte 0xC000 0x50 (withByte 0xC001 0x28 (withByte 0xC09F 0xEE s))))).map
      (fun t => (t.stored 0xFE00, t.stored 0xFE01, t.stored 0xFE9F, t.stored 0xFF46)) = some (0x50, 0x28, 0xEE, 0xC0) := by
  decide +kernel

/-! ### 8-bit arithmetic (section 3) -/

theorem test_add : afOf (run1 [0x80] (withRegs fun r => { r with a := 0x3A, b := 0xC6, f := 0x00 })) = some (0x00, 0xB0, 0x0101, 4) := by
  decide +kernel
/-- W9: Z is tested on the truncated sum. -/
theorem test_add_zero_from_truncated : afOf (run1 [0x80] (withRegs fun r => { r with a := 0x80, b := 0x80 })) = some (0x00, 0x90, 0x0101, 4) := by
  decide +kernel
theorem test_adc : afOf (run1 [0xCE, 0x0F] (withRegs fun r => { r with a := 0xE1, f := 0x10 })) = some (0xF1, 0x20, 0x0102, 8) := by
  decide +kernel
theorem test_sub : afOf (run1 [0xD6, 0x0F] (withRegs fun r => { r with a := 0x3E, f := 0x00 })) = some (0x2F, 0x60, 0x0102, 8) := by
  decide +kernel
theorem test_sbc : afOf (run1 [0x9C] (withRegs fun r => { r with a := 0x3B, h := 0x2A, f := 0x10 })) = some (0x10, 0x40, 0x0101, 4) := by
  decide +kernel
theorem test_and : afOf (run1 [0xE6, 0x00] (withRegs fun r => { r with a := 0x5A, f := 0x10 })) = some (0x00, 0xA0, 0x0102, 8) := by
  decide +kernel
/-- W8. -/
theorem test_xor_a_after_reset : afOf (run1 [0xAF]) = some (0x00, 0x80, 0x0101, 4) := by decide +kernel
theorem test_or : afOf (run1 [0xB0] (withRegs fun r => { r with a := 0x5A, b := 0x00, f := 0x00 })) = some (0x5A, 0x00, 0x0101, 4) := by
  decide +kernel
theorem test_cp : afOf (run1 [0xFE, 0x40] (withRegs fun r => { r with a := 0x3C, f := 0x00 })) = some (0x3C, 0x50, 0x0102, 8) := by
  decide +kernel
theorem test_inc_keeps_carry : afOf (run1 [0x3C] (withRegs fun r => { r with a := 0xFF, f := 0x10 })) = some (0x00, 0xB0, 0x0101, 4) := by
  decide +kernel
/-- W2. -/
theorem test_dec_wraps : (run1 [0x05] (withRegs fun r => { r with b := 0x00, f := 0x00 })).map (fun t => (t.regs.b, t.regs.f)) = some (0xFF, 0x60) := by
  decide +kernel
theorem test_dec_atHL :
    (run1 [0x35] (fun s => withRegs (fun r => { r with h := 0xC0, l := 0x00, f := 0x10 }) (withByte 0xC000 0x01 s))).map
      (fun t => (t.stored 0xC000, t.regs.f, t.totalCycles)) = some (0x00, 0xD0, 12) := by decide +kernel
theorem test_daa_after_subtraction : afOf (run1 [0x27] (withRegs fun r => { r with a := 0x1F, f := 0x60 })) = some (0x19, 0x40, 0x0101, 4) := by
  decide +kernel
theorem test_daa_both_corrections : afOf (run1 [0x27] (withRegs fun r => { r with a := 0x9A, f := 0x00 })) = some (0x00, 0x90, 0x0101, 4) := by
  decide +kernel
theorem test_rlca_clears_zero : afOf (run1 [0x07] (withRegs fun r => { r with a := 0x00, f := 0x80 })) = some (0x00, 0x00, 0x0101, 4) := by
  decide +kernel
theorem test_rra : afOf (run1 [0x1F] (withRegs fun r => { r with a := 0x81, f := 0x00 })) = some (0x40, 0x10, 0x0101, 4) := by
  decide +kernel
theorem test_cpl : afOf (run1 [0x2F] (withRegs fun r => { r with a := 0x35, f := 0x80 })) = some (0xCA, 0xE0, 0x0101, 4) := by
  decide +kernel
theorem test_scf : afOf (run1 [0x37] (withRegs fun r => { r with f := 0xE0 })) = some (0x01, 0x90, 0x0101, 4) := by decide +kernel
theorem test_ccf : afOf (run1 [0x3F] (withRegs fun r => { r with f := 0x10 })) = some (0x01, 0x00, 0x0101, 4) := by decide +kernel

/-! ### 16-bit arithmetic (section 4) -/

theorem test_add_hl :
    (run1 [0x09] (withRegs fun r => { r with h := 0x8A, l := 0x23, b := 0x06, c := 0x05, f := 0x80 })).map (fun t => (t.hl, t.regs.f)) =
      some (0x9028, 0xA0) := by decide +kernel
theorem test_dec_pair_no_flags :
    (run1 [0x0B] (withRegs fun r => { r with b := 0x00, c := 0x00, f := 0x00 })).map (fun t => (t.bc, t.regs.f)) = some (0xFFFF, 0x00) := by
  decide +kernel
theorem test_add_sp_negative :
    (run1 [0xE8, 0xFF] (withRegs fun r => { r with sp := 0x00FF })).map (fun t => (t.regs.sp, t.regs.f, t.totalCycles)) =
      some (0x00FE, 0x30, 16) := by decide +kernel
theorem test_ld_hl_sp :
    (run1 [0xF8, 0x80] (withRegs fun r => { r with sp := 0x0080 })).map (fun t => (t.hl, t.regs.f, t.regs.sp)) =
      some (0x0000, 0x10, 0x0080) := by decide +kernel

/-! ### Control flow (section 5) -/

theorem test_jr_backward : (run1 [0x18, 0x80]).map (fun t => (t.regs.pc, t.totalCycles)) = some (0x0082, 12) := by decide +kernel
theorem test_jr_not_taken : (run1 [0x20, 0x05]).map (fun t => (t.regs.pc, t.totalCycles)) = some (0x0102, 8) := by decide +kernel
theorem test_jp_taken : (run1 [0xCA, 0x00, 0x02]).map (fun t => (t.regs.pc, t.totalCycles)) = some (0x0200, 16) := by decide +kernel
theorem test_call :
    (run1 [0xCD, 0x00, 0x02]).map (fun t => (t.regs.pc, t.regs.sp, t.stored 0xFFFC, t.stored 0xFFFD)) =
      some (0x0200, 0xFFFC, 0x03, 0x01) := by decide +kernel
theorem test_ret_nz_taken :
    (run1 [0xC0] (fun s => withRegs (fun r => { r with sp := 0xFFFC, f := 0x00 }) (withByte 0xFFFD 0x02 s))).map
      (fun t => (t.regs.pc, t.regs.sp, t.totalCycles)) = some (0x0200, 0xFFFE, 20) := by decide +kernel
theorem test_reti :
    (run1 [0xD9] (fun s => withRegs (fun r => { r with sp := 0xFFFC }) (withByte 0xFFFC 0x53 (withByte 0xFFFD 0x01 s)))).map
      (fun t => (t.regs.pc, t.ime)) = some (0x0153, true) := by decide +kernel
theorem test_rst_pushes_into_ie :
    (run1 [0xFF] (withRegs fun r => { r with sp := 0x0000 })).map (fun t => (t.regs.pc, t.stored 0xFFFE, t.ie)) =
      some (0x0038, 0x01, 0x01) := by decide +kernel

/-! ### System and interrupts (section 6) -/

theorem test_ei_serviced_in_same_iteration :
    (run1 [0xFB] (fun s => { s with ie := 0x04, ifl := 0x04 })).map (fun t => (t.regs.pc, t.ime, t.ifl, t.totalCycles)) =
      some (0x0050, false, 0x00, 24) := by decide +kernel
theorem test_di : (run1 [0xF3] (fun s => { s with ime := true })).map (fun t => (t.regs.pc, t.ime)) = some (0x0101, false) := by
  decide +kernel
theorem test_halt : (run1 [0x76] (fun s => { s with ime := true })).map (fun t => (t.halted, t.totalCycles)) = some (true, 4) := by
  decide +kernel
theorem test_halt_bug_faults :
    faultOf { State.reset.placeBytes 0x0100 [0x76] with ie := 0x01, ifl := 0x01 } = some (.haltBugUnmodelled 0x0101) := by
  decide +kernel
theorem test_stop_faults : faultOf (State.reset.placeBytes 0x0100 [0x10, 0x00]) = some (.stopUnmodelled 0x0101) := by decide +kernel
theorem test_undefined_faults : faultOf (State.reset.placeBytes 0x0100 [0xFD]) = some (.undefinedOpcode 0xFD 0x0101) := by
  decide +kernel
/-- W5. -/
theorem test_irq_priority :
    irqStep { State.reset with ime := true, ie := 0x1F, ifl := 0x1F, regs := { Regs.initial with pc := 0x0150 } } =
      .ok 20 { State.reset with
        ie := 0x1F, ifl := 0x1E, mem := [(0xFFFC, 0x50), (0xFFFD, 0x01)]
        regs := { Regs.initial with pc := 0x0040, sp := 0xFFFC } } := by decide +kernel

/-! ### Extended table (section 7) -/

theorem test_rr_a : afOf (run1 [0xCB, 0x1F] (withRegs fun r => { r with a := 0x01, f := 0x00 })) = some (0x00, 0x90, 0x0102, 8) := by
  decide +kernel
theorem test_sra_a : afOf (run1 [0xCB, 0x2F] (withRegs fun r => { r with a := 0x8A, f := 0x00 })) = some (0xC5, 0x00, 0x0102, 8) := by
  decide +kernel
theorem test_swap_a : afOf (run1 [0xCB, 0x37] (withRegs fun r => { r with a := 0xF1, f := 0x00 })) = some (0x1F, 0x00, 0x0102, 8) := by
  decide +kernel
theorem test_rl_atHL :
    (run1 [0xCB, 0x16] (fun s => withRegs (fun r => { r with h := 0xC0, l := 0x00, f := 0x10 }) (withByte 0xC000 0x11 s))).map
      (fun t => (t.stored 0xC000, t.regs.f, t.totalCycles)) = some (0x23, 0x00, 16) := by decide +kernel
theorem test_bit_7_h : afOf (run1 [0xCB, 0x7C] (withRegs fun r => { r with h := 0x7F, f := 0x10 })) = some (0x01, 0xB0, 0x0102, 8) := by
  decide +kernel
theorem test_res_0_atHL :
    (run1 [0xCB, 0x86] (fun s => withRegs (fun r => { r with h := 0xC0, l := 0x00 }) (withByte 0xC000 0xFF s))).map
      (fun t => (t.stored 0xC000, t.totalCycles)) = some (0xFE, 16) := by decide +kernel
theorem test_set_1_e : (run1 [0xCB, 0xCB] (withRegs fun r => { r with e := 0x00 })).map (fun t => (t.regs.e, t.regs.pc)) = some (0x02, 0x0102) := by
  decide +kernel

/-! ### Bus and PPU (sections 8 and 9) -/

theorem test_read_beyond_image :
    read8 0x0150 { State.reset with romSize := 0x0148 } =
      .raised (.romReadBeyondImage 0x0150) { State.reset with romSize := 0x0148, fault := some (.romReadBeyondImage 0x0150) } := by
  decide +kernel
theorem test_write16_wraps : write16 0xFFFF 0xABCD State.reset = .ok () { State.reset with ie := 0xCD } := by decide +kernel
theorem test_tile_row :
    (List.range 8).map ({ State.reset with mem := [(0x8010, 0xF0), (0x8011, 0xCC)] }.tilePixel 1 0) = [3, 3, 1, 1, 2, 2, 0, 0] := by
  decide +kernel
theorem test_palette_write :
    write8 0xFF47 0xE4 State.reset = .ok () { State.reset with ppu := { State.reset.ppu with
      bgp := 0xE4
      bgPal := { entry0 := Params.default.shade0, entry1 := Params.default.shade1, entry2 := Params.default.shade2
                 entry3 := Params.default.shade3 } } } := by decide +kernel
theorem test_joypad_byte : joypadByte 0x10 0xF 0xE = 0xDE ∧ joypadByte 0x20 0xF 0xF = 0xEF ∧ joypadByte 0x30 0x0 0x0 = 0xFF := by
  decide
/-- W4, with the background off. -/
theorem test_ppu_line :
    (let t := ppuStep 456 { State.reset with ppu := { State.reset.ppu with mode := .hblank, ly := 5, lcdc := 0 } }
     (t.ppu.mode, t.ppu.ly, t.ppu.dots)) = (.hblank, 6, 0) := by decide +kernel
/-- R-8 with another BGP: the blank background is `SHADE_RGB[0]` (D33), not entry 0 of the palette, here shade 3. -/
theorem test_blank_background :
    (({ State.reset with ppu := { State.reset.ppu with
        lcdc := 0x90, bgp := 0xFF, bgPal := decodePalette Params.default 0xFF } }).lineOf 0).getD 159 Rgb.black =
      Params.default.shade0 := by decide +kernel

/-! ## Witnesses: states and operands that meet each statement's hypotheses, clause by clause, at the ends of their ranges -/

/-- A machine with the given bytes at 0xC000, PC there and HL at 0xC100. -/
def ram (bytes : List Byte) : State :=
  { State.reset with regs := { Regs.initial with pc := 0xC000, h := 0xC1, l := 0x00 } }.placeBytes 0xC000 bytes

/-- A machine with a short image. -/
def short : State := { State.reset with romSize := 0x0148, regs := { Regs.initial with pc := 0x0148 } }

/-- The PPU of the reset state at a mode, line and dot count. -/
def ppuAt (m : PpuMode) (ly dots : Nat) : State := { State.reset with ppu := { State.reset.ppu with mode := m, ly := ly, dots := dots } }

/-- A machine with SP and HL at the given addresses. -/
def at2 (sp : Word) (hi lo : Byte) : State := { State.reset with regs := { Regs.initial with sp := sp, h := hi, l := lo } }

theorem witness_DecodeOfEncodeIsInstruction :
    wellFormed (.ld_SP_d16 0x0000) = true ∧ wellFormed (.ld_SP_d16 0xFFFF) = true ∧ wellFormed (.cp_d8 0xFF) = true ∧
      wellFormed .stop = true := by decide

theorem witness_EncodeOfDecodeIsBytes :
    decode [0xFA, 0xFF, 0xFF, 0x00] = .ok (.ld_A_atA16 0xFFFF, [0x00]) ∧ Instr.ld_A_atA16 0xFFFF ≠ .stop ∧
      decode [0x10] = .ok (.stop, []) := ⟨rfl, by decide, rfl⟩

/-- One, two and three bytes; the last byte of the image; PC wrapping past 0xFFFF. -/
theorem witness_StepRunsDecodedInstruction :
    (∀ k, k < 1 + operandBytes ((ram [0x00]).readValue 0xC000) → (ram [0x00]).readable (0xC000 + BitVec.ofNat 16 k)) ∧
    decode (State.readBytes 1 0xC000 (ram [0x00])).1 = .ok (.nop, []) ∧
    operandBytes ((ram [0x31, 0x34, 0x12]).readValue 0xC000) = 2 ∧
    decode (State.readBytes 3 0xC000 (ram [0x31, 0x34, 0x12])).1 = .ok (.ld_SP_d16 0x1234, []) ∧
    State.reset.readable 0x7FFF ∧ decode (State.readBytes 1 0x7FFF State.reset).1 = .ok (.nop, []) ∧
    decode (State.readBytes 2 0xFFFF { State.reset with ie := 0x06 }).1 = .ok (.ld_B_d8 0x00, []) ∧
    (ram []).params.legal = true ∧ (ram []).fault = none ∧ (ram []).halted = false := by
  refine ⟨by decide +kernel, rfl, by decide +kernel, rfl, by decide, rfl, rfl, by decide, rfl, rfl⟩

theorem witness_IterationEndsWithPpuAndInterrupts :
    (ppuStep 4 State.reset).ime = false ∧
    (let u := ppuStep 24 { State.reset with ime := true, ie := 0x10, ifl := 0x10 }
     u.ime = true ∧ u.pending ≠ 0 ∧ u.writable16 (u.regs.sp - 2) u.regs.pc) := by decide +kernel

theorem witness_FaultsAtFetchAndStays :
    (short.params.legal = true ∧ short.fault = none ∧ short.halted = false ∧ ¬ short.readable short.regs.pc) ∧
    (let s := { short with regs := { Regs.initial with pc := 0x0147 }, rom := [(0x0147, 0x3E)] }
     1 < 1 + operandBytes (s.readValue 0x0147) ∧ s.readable 0x0147 ∧ ¬ s.readable (0x0147 + 1)) ∧
    { short with fault := some (.stopUnmodelled 0x0101) }.fault = some (.stopUnmodelled 0x0101) := by decide +kernel

theorem witness_RefusesOnlyIllegalRandomAddr :
    ([0xFF01, 0xFF04, 0xFF44, 0xFF7F] : List Word).all (fun a => { Params.default with randomAddr := a }.legal) = true ∧
    ([0xFF00, 0xFF0F, 0xFF40, 0xFF46, 0xFF49, 0xFF80, 0x0000] : List Word).all
      (fun a => !{ Params.default with randomAddr := a }.legal) = true := by decide

theorem witness_InstructionsLeaveTiming :
    (∃ t, exec (.ld_atA16_A 0xFF46) State.reset = .next t) ∧ ∃ info t, exec .stop State.reset = .fault (.raised info t) :=
  ⟨⟨_, rfl⟩, ⟨_, _, rfl⟩⟩

theorem witness_OnlyTheirInstructionsWriteImeAndHalted :
    ∃ t, exec .nop State.reset = .next t ∧ Instr.nop ≠ .di ∧ Instr.nop ≠ .ei ∧ Instr.nop ≠ .reti ∧ Instr.nop ≠ .halt :=
  ⟨_, rfl, by decide, by decide, by decide, by decide⟩

/-- By the fetch, by the instruction, and by a faulted state. -/
theorem witness_FaultEndsIterationUncounted :
    faultOf short = some (.romReadBeyondImage 0x0148) ∧ faultOf (ram [0x10]) = some (.stopUnmodelled 0xC001) ∧
      faultOf { short with fault := some (.stopUnmodelled 0x0101) } = some (.stopUnmodelled 0x0101) := by decide +kernel

theorem witness_HaltedIterationIdlesUntilPending :
    (ppuStep 4 { State.reset with halted := true }).pending = 0 ∧
    (ppuStep 4 { State.reset with halted := true, ie := 0x10, ifl := 0xF0 }).pending ≠ 0 ∧
    (let s := { State.reset with halted := true, ime := true, ie := 0x01, ifl := 0x01 }
     s.params.legal = true ∧ s.fault = none ∧ s.halted = true ∧ (ppuStep 4 s).pending ≠ 0 ∧ s.ime = true ∧
      (ppuStep 4 s).writable16 (s.regs.sp - 2) s.regs.pc) := by decide +kernel

/-- The lowest and the highest source; a stack at the top of the address space. -/
theorem witness_InterruptStepServicesLowestSource :
    (∀ k, k = 0 ∨ k = 4 →
      let s := { at2 0x0000 0xC0 0x00 with ime := true, ie := 0xFF <<< k, ifl := 0xFF }
      k < 5 ∧ s.ime = true ∧ (s.ie &&& s.ifl).getLsbD k = true ∧ (∀ j, j < k → (s.ie &&& s.ifl).getLsbD j = false) ∧
        s.writable16 (s.regs.sp - 2) s.regs.pc) ∧
    (0xE0 : Byte) &&& 0xE0 &&& 0x1F = 0 := by
  refine ⟨fun k hk => ?_, by decide⟩
  rcases hk with rfl | rfl <;> decide +kernel

/-- Another state than reset meets the invariant and steps on. -/
theorem witness_StepKeepsInvariant : (ram [0xFB]).Inv ∧ ∃ t, step (ram [0xFB]) = .next t := by
  refine ⟨⟨by decide, fun c hc => ?_, by decide, fun c hc => ?_, by decide, by decide, rfl, by decide, ⟨by decide, by decide,
    by decide⟩, ⟨by decide, fun c hc => ?_⟩, fun f hf => ?_, by decide +kernel, by decide⟩, ⟨_, rfl⟩⟩
  · have : (ram [0xFB]).mem = [(0xC000, 0xFB)] := by decide +kernel
    rw [this] at hc
    obtain rfl := List.mem_singleton.1 hc
    exact ⟨by decide, by decide, by decide, by decide⟩
  · exact absurd hc (by have : (ram [0xFB]).rom = [] := by decide +kernel
                        rw [this]; exact List.not_mem_nil)
  · exact absurd hc List.not_mem_nil
  · exact absurd hf List.not_mem_nil

theorem witness_PpuTransitionsByMode :
    ((ppuAt .oamScan 0 78).ppu.dots + 1 < budget .oamScan ∧ (ppuAt .vblank 153 0).ppu.dots + 455 < budget .vblank) ∧
    ((ppuAt .oamScan 143 0).ppu.mode = .oamScan ∧ (ppuAt .oamScan 143 0).ppu.dots + 80 = 80 + 0) ∧
    ((ppuAt .pixelTransfer 0 171).ppu.mode = .pixelTransfer ∧ (ppuAt .pixelTransfer 0 171).ppu.dots + 80 = 172 + 79) ∧
    ((ppuAt .hblank 142 203).ppu.mode = .hblank ∧ (ppuAt .hblank 142 203).ppu.ly ≠ 143 ∧
      (ppuAt .hblank 142 203).ppu.dots + 1 = 204 + 0) ∧
    ((ppuAt .hblank 143 203).ppu.ly = 143 ∧ (ppuAt .hblank 143 203).ppu.dots + 80 = 204 + 79) ∧
    ((ppuAt .vblank 152 455).ppu.ly ≠ 153 ∧ (ppuAt .vblank 152 455).ppu.dots + 1 = 456 + 0) ∧
    ((ppuAt .vblank 153 455).ppu.ly = 153 ∧ (ppuAt .vblank 153 455).ppu.dots + 80 = 456 + 79) := by decide

theorem witness_PpuLineTakes456Dots :
    (ppuAt .hblank 0 0).ppu.mode = .hblank ∧ (ppuAt .hblank 142 0).ppu.ly ≤ 142 ∧ (ppuAt .hblank 142 0).ppu.dots = 0 := by decide

theorem witness_PpuStepKeepsModeAndLine :
    ((ppuAt .hblank 143 900).ppu.ly ≤ 143 ↔ (ppuAt .hblank 143 900).ppu.mode ≠ .vblank) ∧
    ((ppuAt .vblank 153 0).ppu.ly ≤ 143 ↔ (ppuAt .vblank 153 0).ppu.mode ≠ .vblank) ∧ (ppuAt .vblank 153 0).ppu.ly ≤ 153 := by
  decide

theorem witness_FrameTakes70224Dots : (ppuAt .hblank 143 203).ppu.InStep ∧ (ppuAt .vblank 153 455).ppu.InStep :=
  ⟨⟨by decide, by decide, by decide⟩, ⟨by decide, by decide, by decide⟩⟩

theorem witness_FirstVBlankAfter65664Dots :
    State.reset.ppu.mode = .oamScan ∧ State.reset.ppu.ly = 0 ∧ State.reset.ppu.dots = 0 ∧ 65663 < 65664 := by decide

/-- A sprite in the last line and column; no sprite with the same picture; sprites off, the background on and off. -/
theorem witness_RenderedPixelIsTopmostSpriteOrBackground :
    (let s := { State.reset with
        mem := [(0x8000, 0x80), (0xFE00, 0x9F), (0xFE01, 0xA7)]
        ppu := { State.reset.ppu with lcdc := 0x93 } }
     s.ppu.lcdc.getLsbD 1 = true ∧ s.spriteShows 0 143 159 ∧ ∀ i, i < 40 → ¬ s.spriteShows i 0 0) ∧
    (State.reset.ppu.lcdc.getLsbD 1 = false ∧ State.reset.ppu.lcdc.getLsbD 0 = true) ∧
    ((0x90 : Byte).getLsbD 1 = false ∧ (0x90 : Byte).getLsbD 0 = false) := by
  unfold State.spriteShows
  decide +kernel

theorem witness_TileCacheIsVramDecode : 383 < 384 ∧ 7 < 8 ∧ 0x8000 + 16 * 383 + 2 * 7 + 1 = 0x97FF := by decide

/-- The ends of each clause's range; no address of a plain clause is one of the registers'. -/
theorem witness_ByteReadByRegion :
    State.reset.params.legal = true ∧ (0x7FFF < 0x8000 ∧ 0x7FFF < State.reset.romSize) ∧
    (0x0148 < 0x8000 ∧ short.romSize ≤ 0x0148) ∧ 0xDFFF < 0xE000 ∧ 0xFDFF < 0xFE00 ∧ 0xFEFF < 0xFF00 ∧
    State.reset.params.randomAddr = 0xFF04 ∧
    (∀ a ∈ [0xFF01, 0xFF05, 0xFF0E, 0xFF10, 0xFF3F, 0xFF41, 0xFF44, 0xFF46, 0xFF4A, 0xFF7F],
      a ≠ State.reset.params.randomAddr.toNat ∧ a ∉ [0xFF0F, 0xFF40, 0xFF42, 0xFF43, 0xFF47, 0xFF48, 0xFF49]) ∧
    0xFFFE < 0xFFFF := by decide

theorem witness_ByteWriteByRegion :
    (0x0000 < 0x8000 ∧ 0x7FFF < 0x8000) ∧ 0xDFFF < 0xE000 ∧ 0xFDFF < 0xFE00 ∧ 0xFEFF < 0xFF00 ∧
    (∀ a ∈ [0xFF00, 0xFF04, 0xFF0E, 0xFF10, 0xFF41, 0xFF45, 0xFF4A, 0xFF7F],
      a ∉ [0xFF0F, 0xFF40, 0xFF42, 0xFF43, 0xFF46, 0xFF47, 0xFF48, 0xFF49]) ∧ 0xFFFE < 0xFFFF := by decide

/-- The last page of the image and the page of the I/O window; an image that ends inside the page. -/
theorem witness_DmaCopiesPageToObjectTable :
    (∀ i, i < 160 → State.reset.readable (BitVec.ofNat 16 (256 * (0x7F : Byte).toNat + i))) ∧
    (∀ i, i < 160 → State.reset.readable (BitVec.ofNat 16 (256 * (0xFF : Byte).toNat + i))) ∧
    (∀ i, i < 72 → short.readable (BitVec.ofNat 16 (256 * (0x01 : Byte).toNat + i))) ∧
    ¬ short.readable (BitVec.ofNat 16 (256 * (0x01 : Byte).toNat + 72)) ∧ ¬ short.readable (BitVec.ofNat 16 (256 * (0x02 : Byte).toNat + 0)) := by
  decide +kernel

theorem witness_WordStoreReadsBack :
    (0x8000 ≤ (0x8000 : Word).toNat ∧ (0xFEFE : Word).toNat + 1 < 0xFF00) ∧
    (0xFF80 ≤ (0xFF80 : Word).toNat ∧ 0xFF80 ≤ (0xFFFE : Word).toNat ∧ (0xFFFE : Word).toNat < 0xFFFF) := by decide

/-- A stack at the bottom of VRAM, one on the DMA register, and one that ends at 0xFFFF. -/
theorem witness_PushThenPopRestores :
    ∀ sp ∈ ([0x8002, 0xFF48, 0x0000] : List Word), let s := at2 sp 0xC1 0x00
      (∀ b, b = s.regs.sp - 2 ∨ b = s.regs.sp - 1 → 0x8000 ≤ b.toNat ∧ b ≠ 0xFF00 ∧ b ≠ s.params.randomAddr) ∧
        s.writable16 (s.regs.sp - 2) (s.stackPair .hl) := by
  intro sp hsp
  simp only [List.mem_cons, List.not_mem_nil, or_false] at hsp
  rcases hsp with rfl | rfl | rfl <;>
    exact ⟨fun b hb => by rcases hb with rfl | rfl <;> decide, by decide +kernel⟩

theorem witness_CallThenReturnResumes :
    ∀ sp ∈ ([0x8002, 0x0000] : List Word), let s := at2 sp 0xC1 0x00
      (∀ b, b = s.regs.sp - 2 ∨ b = s.regs.sp - 1 → 0x8000 ≤ b.toNat ∧ b ≠ 0xFF00 ∧ b ≠ s.params.randomAddr) ∧
        s.writable16 (s.regs.sp - 2) s.regs.pc := by
  intro sp hsp
  simp only [List.mem_cons, List.not_mem_nil, or_false] at hsp
  rcases hsp with rfl | rfl <;>
    exact ⟨fun b hb => by rcases hb with rfl | rfl <;> decide, by decide +kernel⟩

/-- The premise of LoadRegisterFromHL, AccumulatorLoads, IncDecAtHL's read, the (HL) forms of the arithmetic, logic, rotate and
bit statements: HL at the last image byte, on the joypad, on the unpredictable register and at the top. -/
theorem witness_readable_operand :
    (at2 0xFFFE 0x7F 0xFF).hl = 0x7FFF ∧ (at2 0xFFFE 0x7F 0xFF).readable 0x7FFF ∧
    (at2 0xFFFE 0xFF 0x00).hl = 0xFF00 ∧ (at2 0xFFFE 0xFF 0x00).readable 0xFF00 ∧
    (at2 0xFFFE 0xFF 0x04).hl = 0xFF04 ∧ (at2 0xFFFE 0xFF 0x04).readable 0xFF04 ∧
    (at2 0xFFFE 0xFF 0xFF).hl = 0xFFFF ∧ (at2 0xFFFE 0xFF 0xFF).readable 0xFFFF := by decide

/-- The membership premise of AccumulatorLoads and ByteStores with an address that meets the others. -/
theorem witness_AccumulatorLoads :
    (Instr.ld_A_atA16 0xFFFF, (0xFFFF : Word), 16) ∈ [(Instr.ld_A_atBC, State.reset.bc, 8), (.ld_A_atA16 0xFFFF, 0xFFFF, 16)] ∧
      State.reset.readable 0xFFFF ∧ State.reset.readable 0x0000 := by
  exact ⟨List.mem_cons_of_mem _ (List.mem_cons_self ..), by decide, by decide⟩

/-- A store to RAM, one that the ROM drops, and one that starts a DMA copy. -/
theorem witness_ByteStores :
    State.reset.writable 0xC000 0xFF ∧ State.reset.writable 0x0000 0xFF ∧ State.reset.writable 0xFF46 0x7F ∧
      State.reset.writable 0xFF46 0xFF := by decide +kernel

/-- The premise of StoreStackPointer, PushStoresPair, CallsPushReturnAddress: a word at the top of the address space. -/
theorem witness_writable_word :
    State.reset.writable16 0xFFFF State.reset.regs.sp ∧ (at2 0x0001 0xC0 0x00).writable16 (0x0001 - 2) (State.reset.stackPair .af) ∧
      (at2 0xFF48 0xC0 0x00).writable16 (0xFF48 - 2) 0xC07F := by decide +kernel

/-- The premise of PopLoadsPair and ReturnsPopPc: a word that spans the image's end and one that wraps. -/
theorem witness_readable_word :
    (at2 0x7FFF 0xC0 0x00).readable16 0x7FFF ∧ (at2 0xFFFF 0xC0 0x00).readable16 0xFFFF := by decide

/-- Each condition holds in one of two states. -/
theorem witness_conditions :
    ∀ cc : Cond, ∃ s t : State, s.cond cc = true ∧ t.cond cc = false := by
  intro cc
  refine ⟨{ State.reset with regs := { Regs.initial with f := match cc with | .z | .c => 0x90 | _ => 0x00 } },
    { State.reset with regs := { Regs.initial with f := match cc with | .z | .c => 0x00 | _ => 0x90 } }, ?_⟩
  cases cc <;> exact ⟨rfl, rfl⟩

theorem witness_alu_operations :
    (AluOp.adc = .add ∨ AluOp.adc = .adc) ∧ (AluOp.cp = .sub ∨ AluOp.cp = .sbc ∨ AluOp.cp = .cp) ∧
      (AluOp.or = .and ∨ AluOp.or = .xor ∨ AluOp.or = .or) := by decide

/-- HL at the end of the object table and on the DMA register, whose byte 0x00 becomes page 0x01 or 0xFF. -/
theorem witness_IncDecAtHL :
    (at2 0xFFFE 0xFE 0x9F).readValue 0xFE9F = 0x00 ∧ (at2 0xFFFE 0xFE 0x9F).readable 0xFE9F ∧
    (at2 0xFFFE 0xFE 0x9F).writable 0xFE9F 0x01 ∧ (at2 0xFFFE 0xFE 0x9F).writable 0xFE9F 0xFF ∧
    (at2 0xFFFE 0xFF 0x46).hl = 0xFF46 ∧ (at2 0xFFFE 0xFF 0x46).readable 0xFF46 ∧
    (at2 0xFFFE 0xFF 0x46).readValue 0xFF46 = 0x00 ∧ (at2 0xFFFE 0xFF 0x46).writable 0xFF46 0x01 ∧
    (at2 0xFFFE 0xFF 0x46).writable 0xFF46 0xFF := by
  decide +kernel

theorem witness_AddThenDecimalAdjustIsDecimalAddition :
    (∀ m, m = 0 ∨ m = 99 → m < 100 ∧
      { State.reset with regs := { Regs.initial with a := BitVec.ofNat 8 (16 * (m / 10) + m % 10) } }.regs.a.toNat =
        16 * (m / 10) + m % 10) ∧ 99 < 100 := by
  refine ⟨fun m hm => ?_, by decide⟩
  rcases hm with rfl | rfl <;> decide

theorem witness_SystemInstructions :
    ({ State.reset with ime := true }.ime = true) ∧ State.reset.ie &&& State.reset.ifl &&& 0x1F = 0 := by decide

theorem witness_StopsRaiseTheirFault :
    let s := { State.reset with ie := 0x10, ifl := 0x10 }
    s.ime = false ∧ s.ie &&& s.ifl &&& 0x1F ≠ 0 := by decide

theorem witness_PrefixRunsExtendedEntry :
    (0xFF : Byte).toNat % 8 ≠ 6 ∧ (0x06 : Byte).toNat % 8 = 6 ∧ (0x7E : Byte).toNat % 8 = 6 ∧
      (at2 0xFFFE 0xFF 0xFF).readable 0xFFFF ∧ ∀ v, (at2 0xFFFE 0xFF 0xFF).writable 0xFFFF v := by
  exact ⟨by decide, by decide, by decide, by decide, fun v h => absurd h (by decide)⟩

theorem witness_ExtendedRotatesAndShifts :
    ∀ o : RotOp, let s := at2 0xFFFE 0xFF 0xFF
      s.readable s.hl ∧ s.writable s.hl (BitVec.ofNat 8 (rotValue o (s.readValue s.hl).toNat s.flagC.toNat)) := by
  intro o
  exact ⟨by decide, fun h => absurd h (by decide)⟩

theorem witness_BitResetsAndSets :
    (∀ x, BitMade 7 x 0x00 (if x then 0x80 else 0x00)) ∧ (∀ x, BitMade 0 x 0xFF (if x then 0xFF else 0xFE)) ∧
      (at2 0xFFFE 0xFF 0xFF).readable 0xFFFF ∧ (at2 0xFFFE 0xFF 0xFF).writable 0xFFFF 0x80 := by
  unfold BitMade
  decide

/-- HL, BC and SP beyond the image of 0x148 bytes; a word of which only the second byte is. -/
theorem witness_OperandReadsFaultBeyondImage :
    (let s := { short with regs := { Regs.initial with h := 0x01, l := 0x48, b := 0x7F, c := 0xFF, sp := 0x0148 } }
     s.hl = 0x0148 ∧ ¬ s.readable 0x0148 ∧ s.bc = 0x7FFF ∧ ¬ s.readable 0x7FFF) ∧
    short.readable 0x0147 ∧ ¬ short.readable (0x0147 + 1) ∧ State.reset.cond .z = true := by decide

/-- A store of page 0x7F to the DMA register with an image of 0x148 bytes; the low byte and the high byte of a word. -/
theorem witness_OperandWritesFaultInDma :
    ¬ short.writable 0xFF46 0x7F ∧ ¬ short.writable 0xFF46 0x01 ∧ ¬ short.writable16 0xFF46 0xC07F ∧
    ¬ short.writable16 0xFF45 0x7FC0 ∧ (0xFF48 : Word) - 2 = 0xFF46 ∧ ¬ short.writable16 0xFF46 0x0150 ∧
    { short with ime := true, ie := 0x01, ifl := 0x01 }.pending ≠ 0 := by
  have h : ¬ short.readable 0x7F00 := by decide
  have h1 : ¬ short.readable 0x0148 := by decide
  have h5 : ¬ short.readable 0x5000 := by decide
  refine ⟨fun w => h (w rfl 0 (by decide)), fun w => h1 (w rfl 0x48 (by decide)), fun w => h (w.1 rfl 0 (by decide)),
    fun w => h (w.2 rfl 0 (by decide)), by decide, fun w => h5 (w.1 rfl 0 (by decide)), by decide⟩

end Sys2Proof.Tests
end

section
/-! PROOFS. Reset (10_state.md R53-R59): which byte gives which cartridge tag, what the cleared framebuffer shows, and the
values that construction leaves. -/

namespace Sys2Proof.Machine

/-- Each tag names exactly its byte, and Unknown every other one (10_state.md R59). -/
theorem CartType.ofByte_eq_iff (v : Byte) :
    (ofByte v = .plain ↔ v = 0x00) ∧ (ofByte v = .mapper ↔ v = 0x01) ∧ (ofByte v = .mapperRam ↔ v = 0x02) ∧
      (ofByte v = .unknown ↔ v ≠ 0x00 ∧ v ≠ 0x01 ∧ v ≠ 0x02) := by
  unfold ofByte
  split_ifs with plain mapper mapperRam
  · subst plain; decide
  · subst mapper; decide
  · subst mapperRam; decide
  · exact ⟨iff_of_false nofun plain, iff_of_false nofun mapper, iff_of_false nofun mapperRam,
      iff_of_true rfl ⟨plain, mapper, mapperRam⟩⟩

/-- No line is listed after reset, so every one reads as the blank line (log 18). -/
@[simp] theorem Ppu.initial_pixel (p : Params) (y x : Nat) : (Ppu.initial p).pixel y x = Rgb.black :=
  List.getElem?_getD_replicate_default_eq Rgb.black 160 x

/-- Settles O13: the registers and flags are the values `State.construct` writes down. The two facts that are not are the
black framebuffer, which lists no line, and the tag, which is decided from the image byte. -/
theorem resetLeavesSpecValues : Obligations.ResetLeavesSpecValues := by
  unfold Obligations.ResetLeavesSpecValues
  refine ⟨fun p size rom cpu store => ?_, rfl⟩
  refine ⟨rfl, rfl, rfl, rfl, rfl, rfl, rfl, ?ppu_and_tag⟩
  refine ⟨rfl, rfl, rfl, rfl, rfl, rfl, rfl, rfl, rfl, rfl, rfl, rfl, ?framebuffer, ?tag⟩
  case framebuffer => exact fun y x _ _ => Ppu.initial_pixel p y x
  case tag => exact CartType.ofByte_eq_iff (rom.read 0x0147)

end Sys2Proof.Machine
end

section
/-! PROOFS. The bus map (20_memory.md R61): each region and its range. Byte writes (R63, R65-R71, R73, R74, R80, R81): one
rule per arm of `write8` and of `writeIo`. -/

namespace Sys2Proof.Machine

/-! ## The bus map -/

/-- The range of each region, as the table of 20_memory.md R61 gives it. -/
def Region.Holds : Region → Nat → Prop
  | .rom, n => n ≤ 0x7FFF
  | .vramTiles, n => 0x8000 ≤ n ∧ n ≤ 0x97FF
  | .vramMaps, n => 0x9800 ≤ n ∧ n ≤ 0x9FFF
  | .eram, n => 0xA000 ≤ n ∧ n ≤ 0xBFFF
  | .wram, n => 0xC000 ≤ n ∧ n ≤ 0xDFFF
  | .mirror, n => 0xE000 ≤ n ∧ n ≤ 0xFDFF
  | .oam, n => 0xFE00 ≤ n ∧ n ≤ 0xFEFF
  | .io, n => 0xFF00 ≤ n ∧ n ≤ 0xFF7F
  | .hram, n => 0xFF80 ≤ n ∧ n ≤ 0xFFFE
  | .ie, n => n = 0xFFFF

/-- `region` tests the upper ends in ascending order: the tests passed before a region's own give its lower end, its own
the upper one, and below 0x10000 the last test always holds. -/
theorem region_eq_some_iff (a : Word) (r : Region) : region a = some r ↔ r.Holds a.toNat := by
  have bound := a.isLt
  cases r <;> simp only [region, Region.Holds] <;> grind

/-- Settles O25: some region is answered, and it is a given one exactly when the address lies in that one's range. -/
theorem regionsPartitionAddressSpace : Obligations.RegionsPartitionAddressSpace := by
  unfold Obligations.RegionsPartitionAddressSpace
  intro a
  obtain ⟨r, hr⟩ := Option.isSome_iff_exists.1 (region_isSome a)
  have range (q : Region) : r = q ↔ q.Holds a.toNat := by
    rw [← region_eq_some_iff, hr, Option.some_inj]
  exact ⟨r, hr, range .rom, range .vramTiles, range .vramMaps, range .eram, range .wram, range .mirror, range .oam,
    range .io, range .hram, range .ie⟩

/-! ## Byte writes -/

/-- The ROM drops a write (20_memory.md R63, R65). -/
theorem write8_of_rom {a : Word} (v : Byte) (s : State) (h : a.toNat < 0x8000) : write8 a v s = .ok () s := by
  rw [write8, (region_rom a).2 h]

/-- A write between the ROM and the I/O window, or above it below IE, stores the byte at the address it reaches. -/
theorem write8_of_ram {a : Word} (v : Byte) (s : State)
    (h : (0x8000 ≤ a.toNat ∧ a.toNat < 0xFF00) ∨ (0xFF80 ≤ a.toNat ∧ a.toNat < 0xFFFF)) :
    write8 a v s = .ok () (s.storeMem (home a).toNat v) := by
  obtain ⟨r, hr⟩ := Option.isSome_iff_exists.1 (region_isSome a)
  have hin := (region_eq_some_iff a r).1 hr
  rw [write8, hr]
  cases r
  case rom | io | ie => simp only [Region.Holds] at hin; omega
  all_goals rfl

/-- Outside the mirror the address a write reaches is the address itself (20_memory.md R66, R68, R69, R71, R81). -/
theorem write8_of_ram_not_mirror {a : Word} (v : Byte) (s : State)
    (h : (0x8000 ≤ a.toNat ∧ a.toNat < 0xE000) ∨ (0xFE00 ≤ a.toNat ∧ a.toNat < 0xFF00) ∨
      (0xFF80 ≤ a.toNat ∧ a.toNat < 0xFFFF)) :
    write8 a v s = .ok () (s.storeMem a.toNat v) := by
  rw [write8_of_ram v s (by omega), home_of_not_mirror a (by omega)]

/-- A write through the mirror stores the byte of working RAM 0x2000 below (20_memory.md R70). -/
theorem write8_of_mirror {a : Word} (v : Byte) (s : State) (h : 0xE000 ≤ a.toNat ∧ a.toNat < 0xFE00) :
    write8 a v s = .ok () (s.storeMem (a.toNat - 0x2000) v) := by
  rw [write8_of_ram v s (by omega), home_toNat, if_pos h]

theorem write8_of_io {a : Word} (v : Byte) (s : State) (h : 0xFF00 ≤ a.toNat ∧ a.toNat < 0xFF80) :
    write8 a v s = writeIo a v s := by
  rw [write8, (region_io a).2 h]

/-- The addresses of the I/O window whose write does more than store a byte there: IF, the PPU's registers and the DMA
trigger (20_memory.md R74, R76, R80). -/
def ioRegisters : List Nat := [0xFF0F, 0xFF40, 0xFF42, 0xFF43, 0xFF46, 0xFF47, 0xFF48, 0xFF49]

/-- Every other address of the I/O window is plain storage (20_memory.md R73, R78). -/
theorem writeIo_of_plain {a : Word} (v : Byte) (s : State) (h : a.toNat ∉ ioRegisters) :
    writeIo a v s = .ok () (s.storeMem a.toNat v) := by
  have hppu : ¬ ppuHeld a = true := by
    rw [ppuHeld_iff]
    rintro (rfl | rfl | rfl | rfl | rfl | rfl) <;> exact h (by decide)
  have hif : a ≠ 0xFF0F := by rintro rfl; exact h (by decide)
  have hdma : a ≠ 0xFF46 := by rintro rfl; exact h (by decide)
  rw [writeIo, if_neg hppu, if_neg hif, if_neg hdma]

/-- Settles O27: a range is one arm of the bus; at the address of a register the write evaluates to its next state. -/
theorem byteWriteByRegion : Obligations.ByteWriteByRegion := by
  unfold Obligations.ByteWriteByRegion
  intro s a v
  refine ⟨?rom, ?vram_to_wram, ?mirror, ?oam, ?ifl, ?lcdc, ?scy, ?scx, ?bgp, ?obp0, ?obp1, ?plain_io, ?hram, ?ie⟩
  case rom => exact write8_of_rom v s
  case vram_to_wram => exact fun lo hi => write8_of_ram_not_mirror v s (.inl ⟨lo, hi⟩)
  case mirror => exact fun lo hi => write8_of_mirror v s ⟨lo, hi⟩
  case oam => exact fun lo hi => write8_of_ram_not_mirror v s (.inr (.inl ⟨lo, hi⟩))
  case plain_io => exact fun lo hi plain => (write8_of_io v s ⟨lo, hi⟩).trans (writeIo_of_plain v s plain)
  case hram => exact fun lo hi => write8_of_ram_not_mirror v s (.inr (.inr ⟨lo, hi⟩))
  all_goals rintro rfl; rfl

end Sys2Proof.Machine
end

section
/-! PROOFS. Loads and stores (40_load.md): the operation each member of a family runs and its bytes; what each operation
leaves, from the rules of the bus. -/

namespace Sys2Proof.Machine

/-! ## The operation a member of a family runs -/

@[simp] theorem exec_ofLd_reg_reg (dst src : Reg8) (s : State) :
    exec (.ofLd (.reg dst) (.reg src)) s = ldRegReg dst src s := by cases dst <;> cases src <;> rfl

@[simp] theorem exec_ofLd_reg_atHL (dst : Reg8) (s : State) : exec (.ofLd (.reg dst) .atHL) s = ldRegAtHL dst s := by
  cases dst <;> rfl

@[simp] theorem exec_ofLd_atHL_reg (r : Reg8) (s : State) : exec (.ofLd .atHL (.reg r)) s = ldAtHLReg r s := by
  cases r <;> rfl

@[simp] theorem exec_ofLdImm_reg (dst : Reg8) (n : Byte) (s : State) :
    exec (.ofLdImm (.reg dst) n) s = ldRegImm dst n s := by cases dst <;> rfl

@[simp] theorem exec_ofLdPairImm (p : Pair) (v : Word) (s : State) : exec (.ofLdPairImm p v) s = ldPairImm p v s := by
  cases p <;> rfl

@[simp] theorem exec_ofPush (q : StackPair) (s : State) : exec (.ofPush q) s = pushPair q s := by cases q <;> rfl

@[simp] theorem exec_ofPop (q : StackPair) (s : State) : exec (.ofPop q) s = popPair q s := by cases q <;> rfl

/-! ## Its bytes (30_encoding.md R102-R104, R119) -/

theorem encode_ofLd_reg_reg (dst src : Reg8) :
    encode (.ofLd (.reg dst) (.reg src)) = [opByte (64 + 8 * regField dst + regField src)] := by
  cases dst <;> cases src <;> rfl

theorem encode_ofLd_reg_atHL (dst : Reg8) : encode (.ofLd (.reg dst) .atHL) = [opByte (64 + 8 * regField dst + 6)] := by
  cases dst <;> rfl

theorem encode_ofLd_atHL_reg (r : Reg8) : encode (.ofLd .atHL (.reg r)) = [opByte (112 + regField r)] := by
  cases r <;> rfl

theorem encode_ofLdImm_reg (dst : Reg8) (n : Byte) :
    encode (.ofLdImm (.reg dst) n) = [opByte (8 * regField dst + 6), n] := by cases dst <;> rfl

theorem encode_ofLdPairImm (p : Pair) (v : Word) :
    encode (.ofLdPairImm p v) = [opByte (16 * pairField p + 1), lowByte v, highByte v] := by cases p <;> rfl

theorem encode_ofPush (q : StackPair) : encode (.ofPush q) = [opByte (197 + 16 * stackField q)] := by cases q <;> rfl

theorem encode_ofPop (q : StackPair) : encode (.ofPop q) = [opByte (193 + 16 * stackField q)] := by cases q <;> rfl

/-- `0xFF00 + n`, which the model writes as a word of two bytes (30_encoding.md R112). -/
theorem highPage_eq (n : Byte) : highPage n = 0xFF00 + n.setWidth 16 := by
  have hn := n.isLt
  have hhi : (0xFF : Byte).toNat = 0xFF := rfl
  have hbase : (0xFF00 : Word).toNat = 0xFF00 := rfl
  apply BitVec.eq_of_toNat_eq
  rw [highPage, wordOf, BitVec.toNat_append, ← Nat.shiftLeft_add_eq_or_of_lt hn, Nat.shiftLeft_eq, hhi,
    BitVec.toNat_add, BitVec.toNat_setWidth, hbase]
  omega

/-! ## Registers after an operation -/

theorem reg8_of_regs {s t : State} (h : t.regs = s.regs) (r : Reg8) : t.reg8 r = s.reg8 r := by
  cases r <;> simp only [State.reg8, h]

theorem hl_of_regs {s t : State} (h : t.regs = s.regs) : t.hl = s.hl := by rw [State.hl, State.hl, h]

theorem setHL_reg8 (s : State) (v : Word) (r : Reg8) (h : r ∉ [Reg8.h, Reg8.l]) : (s.setHL v).reg8 r = s.reg8 r :=
  setPair_reg8 s .hl v r h

@[simp] theorem setReg8_a_hl (s : State) (v : Byte) : (s.setReg8 .a v).hl = s.hl := rfl

theorem setStackPair_reg8 (s : State) (q : StackPair) (v : Word) (r : Reg8) (h : r ∉ stackPairParts q) :
    (s.setStackPair q v).reg8 r = s.reg8 r := by
  cases q
  case af =>
    have hne : r ≠ .a := fun e => h (List.mem_singleton.2 e)
    exact (writeF_reg8 _ (lowByte v) r).trans (setReg8_reg8_ne s .a r (highByte v) hne)
  all_goals exact setPair_reg8 s _ v r h

theorem setStackPair_regs_f (s : State) (q : StackPair) (v : Word) (h : q ≠ .af) :
    (s.setStackPair q v).regs.f = s.regs.f := by
  cases q
  case af => exact absurd rfl h
  all_goals rfl

/-- The flags of AF are bits 7 to 4 of the word written to it, the low nibble of F is 0 (10_state.md R22). -/
theorem setStackPair_af_flags (s : State) (v : Word) :
    FlagsAre (s.setStackPair .af v) (v.getLsbD 7) (v.getLsbD 6) (v.getLsbD 5) (v.getLsbD 4) := by
  refine ⟨?z, ?n, ?h, ?c, ?low⟩
  case low => exact writeF_low s (lowByte v)
  all_goals
    show (lowByte v &&& 0xF0).getLsbD _ = _
    rw [BitVec.getLsbD_and, lowByte, BitVec.getLsbD_setWidth]
    simp

/-! ## Writes of registers touch nothing else -/

theorem OnlyRegs.trans {s t u : State} (h : OnlyRegs s t) (k : OnlyRegs t u) : OnlyRegs s u where
  rest := k.rest.trans (by rw [h.rest])
  bytes a := (k.bytes a).trans (h.bytes a)

/-- The registers and the cost may take any values. -/
theorem OnlyRegs.of_regs (s : State) (r : Regs) (n : Nat) : OnlyRegs s { s with regs := r, cost := n } :=
  ⟨rfl, fun _ => rfl⟩

theorem OnlyRegs.withCost {s t : State} (h : OnlyRegs s t) (n : Nat) : OnlyRegs s { t with cost := n } :=
  h.trans (.of_regs t t.regs n)

theorem OnlyRegs.setReg8 (s : State) (dst : Reg8) (v : Byte) : OnlyRegs s (s.setReg8 dst v) := by
  cases dst <;> exact .of_regs s _ s.cost

theorem OnlyRegs.setHL (s : State) (v : Word) : OnlyRegs s (s.setHL v) := .of_regs s _ s.cost

theorem OnlyRegs.setPair (s : State) (p : Pair) (v : Word) : OnlyRegs s (s.setPair p v) := by
  cases p <;> exact .of_regs s _ s.cost

theorem OnlyRegs.setStackPair (s : State) (q : StackPair) (v : Word) : OnlyRegs s (s.setStackPair q v) := by
  cases q <;> exact .of_regs s _ s.cost

/-! ## Loads -/

/-- An instruction that reads a readable byte ends as one that raises nothing, from the state after the read. -/
theorem read8_andThen_finish {a : Word} {s : State} (h : s.readable a) (n : Nat) (k : Byte → State → State) :
    ((read8 a s).andThen fun v u => .ok n (k v u)).finish = done n (k (s.readValue a) (s.drawn a)) := by
  rw [read8_ok a s h]
  rfl

/-- An instruction that loads a register, `u` being `s` after the operand's read. -/
theorem done_setReg8 {s u : State} (same : u.regs = s.regs) (dst : Reg8) (v : Byte) (n : Nat) :
    ∃ t, done n (u.setReg8 dst v) = .next t ∧ t.reg8 dst = v ∧ KeepsReg8 [dst] s t ∧ KeepsFSpPc s t ∧ t.cost = n ∧
      OnlyRegs u t := by
  refine ⟨_, rfl, setReg8_reg8_same u dst v, fun r hr => ?others, ?fSpPc, rfl, (OnlyRegs.setReg8 u dst v).withCost n⟩
  case others =>
    have hne : r ≠ dst := fun e => hr (List.mem_singleton.2 e)
    exact (setReg8_reg8_ne u dst r v hne).trans (reg8_of_regs same r)
  case fSpPc => simp [KeepsFSpPc, same]

/-- Settles O32: both forms write one register and read nothing through the bus. -/
theorem loadRegisterFromRegisterOrByte : Obligations.LoadRegisterFromRegisterOrByte := by
  unfold Obligations.LoadRegisterFromRegisterOrByte
  refine ⟨fun dst src s => ⟨encode_ofLd_reg_reg dst src, ?_⟩, fun dst n s => ⟨encode_ofLdImm_reg dst n, ?_⟩⟩
  · rw [exec_ofLd_reg_reg]
    exact done_setReg8 rfl dst (s.reg8 src) 4
  · rw [exec_ofLdImm_reg]
    exact done_setReg8 rfl dst n 8

/-- Settles O33: HL is read for the address before the destination is written. -/
theorem loadRegisterFromHL : Obligations.LoadRegisterFromHL := by
  unfold Obligations.LoadRegisterFromHL
  refine fun dst s => ⟨encode_ofLd_reg_atHL dst, fun hr => ?_⟩
  rw [exec_ofLd_reg_atHL, ldRegAtHL, read8_andThen_finish hr 8 fun v u => u.setReg8 dst v]
  exact done_setReg8 (drawn_regs s s.hl) dst (s.readValue s.hl) 8

theorem loadA_next {a : Word} {s : State} (h : s.readable a) (n : Nat) :
    ∃ t, loadA n a s = .next t ∧ t.regs.a = s.readValue a ∧ KeepsReg8 [.a] s t ∧ KeepsFSpPc s t ∧ t.cost = n ∧
      OnlyRegs (s.drawn a) t := by
  rw [loadA, read8_andThen_finish h n fun v u => u.setReg8 .a v]
  exact done_setReg8 (drawn_regs s a) .a (s.readValue a) n

theorem loadAStepHL_next {s : State} (h : s.readable s.hl) (step : Word) :
    ∃ t, loadAStepHL step s = .next t ∧ t.regs.a = s.readValue s.hl ∧ t.hl = s.hl + step ∧
      KeepsReg8 [.a, .h, .l] s t ∧ KeepsFSpPc s t ∧ t.cost = 8 ∧ OnlyRegs (s.drawn s.hl) t := by
  have hl : (s.drawn s.hl).hl = s.hl := hl_of_regs (drawn_regs s s.hl)
  rw [loadAStepHL, read8_andThen_finish h 8 fun v u => (u.setReg8 .a v).setHL (u.hl + step), hl]
  refine ⟨_, rfl, rfl, setHL_hl _ (s.hl + step), fun r hr => ?others, ?fSpPc, rfl, ?only⟩
  case others =>
    obtain ⟨ha, hhl⟩ : r ≠ .a ∧ r ∉ [Reg8.h, Reg8.l] := by simpa using hr
    calc ((s.drawn s.hl).setReg8 .a (s.readValue s.hl) |>.setHL (s.hl + step)).reg8 r
      _ = ((s.drawn s.hl).setReg8 .a (s.readValue s.hl)).reg8 r := setHL_reg8 _ _ r hhl
      _ = (s.drawn s.hl).reg8 r := setReg8_reg8_ne _ .a r _ ha
      _ = s.reg8 r := reg8_of_regs (drawn_regs s s.hl) r
  case fSpPc => simp [KeepsFSpPc]
  case only => exact ((OnlyRegs.setReg8 _ .a _).trans (.setHL _ _)).withCost 8

/-- Settles O34: each instruction of the first list is `loadA` at its address, each of the second `loadAStepHL` with its
step. -/
theorem accumulatorLoads : Obligations.AccumulatorLoads := by
  unfold Obligations.AccumulatorLoads
  intro s n w
  constructor
  · intro i bytes a c hi
    obtain ⟨hbytes, hexec⟩ : encode i = bytes ∧ exec i s = loadA c a s := by
      simp only [List.mem_cons, List.not_mem_nil, or_false, Prod.mk.injEq, ← highPage_eq] at hi
      rcases hi with ⟨rfl, rfl, rfl, rfl⟩ | ⟨rfl, rfl, rfl, rfl⟩ | ⟨rfl, rfl, rfl, rfl⟩ | ⟨rfl, rfl, rfl, rfl⟩ |
        ⟨rfl, rfl, rfl, rfl⟩ <;> exact ⟨rfl, rfl⟩
    rw [hexec]
    exact ⟨hbytes, fun hr => loadA_next hr c⟩
  · intro i bytes step hi
    obtain ⟨hbytes, hexec⟩ : encode i = bytes ∧ exec i s = loadAStepHL step s := by
      simp only [List.mem_cons, List.not_mem_nil, or_false, Prod.mk.injEq] at hi
      rcases hi with ⟨rfl, rfl, rfl⟩ | ⟨rfl, rfl, rfl⟩ <;> exact ⟨rfl, rfl⟩
    rw [hexec]
    exact ⟨hbytes, fun hr => loadAStepHL_next hr step⟩

/-- Settles O37: a pair is written and nothing is read through the bus. -/
theorem loadPairs : Obligations.LoadPairs := by
  unfold Obligations.LoadPairs
  refine ⟨rfl, fun p v s => ⟨encode_ofLdPairImm p v, ?_⟩, fun s => ?_⟩
  · rw [exec_ofLdPairImm]
    refine ⟨_, rfl, setPair_pair s p v, setPair_reg8 s p v, fun hp => ?sp, setPair_regs_f s p v, setPair_regs_pc s p v,
      rfl, (OnlyRegs.setPair s p v).withCost 12⟩
    exact (setPair_sp s p v).trans (if_neg hp)
  · exact ⟨_, rfl, rfl, rfl, (OnlyRegs.setPair s .sp s.hl).withCost 8⟩

/-- An instruction that loads a stack pair: only AF has flags in it, and no pair has SP or PC. -/
theorem done_setStackPair (u : State) (q : StackPair) (v : Word) (n : Nat) :
    ∃ t, done n (u.setStackPair q v) = .next t ∧ (q ≠ .af → t.stackPair q = v ∧ t.regs.f = u.regs.f) ∧
      (q = .af → t.regs.a = highByte v ∧ FlagsAre t (v.getLsbD 7) (v.getLsbD 6) (v.getLsbD 5) (v.getLsbD 4)) ∧
      KeepsReg8 (stackPairParts q) u t ∧ t.regs.sp = u.regs.sp ∧ t.regs.pc = u.regs.pc ∧ t.cost = n ∧ OnlyRegs u t := by
  refine ⟨_, rfl, fun hq => ⟨?pair, setStackPair_regs_f u q v hq⟩, ?af, setStackPair_reg8 u q v,
    setStackPair_regs_sp u q v, setStackPair_regs_pc u q v, rfl, (OnlyRegs.setStackPair u q v).withCost n⟩
  case pair => exact (setStackPair_stackPair u q v).trans (if_neg hq)
  case af =>
    rintro rfl
    exact ⟨rfl, setStackPair_af_flags u v⟩

/-- POP of a readable word: the pair is written after SP has moved. -/
theorem popPair_eq {s : State} (h : s.readable16 s.regs.sp) (q : StackPair) :
    popPair q s = done 12 (State.setStackPair
      { s.drawn16 s.regs.sp with regs := { s.regs with sp := s.regs.sp + 2 } } q (s.readValue16 s.regs.sp)) := by
  rw [popPair, pop16_ok s h]
  rfl

/-- Settles O39: the pop reads the word and steps SP, and then the pair is written. -/
theorem popLoadsPair : Obligations.PopLoadsPair := by
  unfold Obligations.PopLoadsPair
  refine ⟨encode_ofPop, fun q s hr => ?_⟩
  rw [exec_ofPop, popPair_eq hr]
  obtain ⟨t, hnext, hpair, haf, hothers, hsp, hpc, hcost, honly⟩ := done_setStackPair
    { s.drawn16 s.regs.sp with regs := { s.regs with sp := s.regs.sp + 2 } } q (s.readValue16 s.regs.sp) 12
  exact ⟨t, hnext, hpair, haf, hothers, hsp, hpc, hcost, (OnlyRegs.of_regs _ _ _).trans honly⟩

/-! ## Stores -/

/-- An instruction that only writes a writable byte. -/
theorem write8_andThen_finish {a : Word} {v : Byte} {s : State} (h : s.writable a v) (n : Nat) :
    ∃ t, ((write8 a v s).andThen fun _ u => .ok n u).finish = .next t ∧ Stored s a v t ∧ t.regs = s.regs ∧
      t.cost = n := by
  obtain ⟨t, hwrite, hstored, hregs, -⟩ := write8_ok a v s h
  rw [hwrite]
  exact ⟨_, rfl, hstored.to_regs t.regs n, hregs, rfl⟩

theorem storeAStepHL_next {s : State} (h : s.writable s.hl s.regs.a) (step : Word) :
    ∃ t, storeAStepHL step s = .next t ∧ Stored s s.hl s.regs.a t ∧ t.hl = s.hl + step ∧ KeepsReg8 [.h, .l] s t ∧
      KeepsFSpPc s t ∧ t.cost = 8 := by
  obtain ⟨t, hwrite, hstored, hregs, -⟩ := write8_ok s.hl s.regs.a s h
  rw [storeAStepHL, hwrite]
  refine ⟨_, rfl, hstored.to_regs _ 8, ?hl, fun r hr => ?others, ?fSpPc, rfl⟩
  case hl => exact (setHL_hl t (t.hl + step)).trans (by rw [hl_of_regs hregs])
  case others => exact (setHL_reg8 t (t.hl + step) r hr).trans (reg8_of_regs hregs r)
  case fSpPc => simp [KeepsFSpPc, hregs]

/-- Settles O35: each instruction of the first list only writes its byte to its address, each of the second is
`storeAStepHL` with its step. -/
theorem byteStores : Obligations.ByteStores := by
  unfold Obligations.ByteStores
  intro s r n w
  constructor
  · intro i bytes a v c hi
    obtain ⟨hbytes, hexec⟩ :
        encode i = bytes ∧ exec i s = ((write8 a v s).andThen fun _ u => .ok c u).finish := by
      simp only [List.mem_cons, List.not_mem_nil, or_false, Prod.mk.injEq, ← highPage_eq] at hi
      obtain ⟨rfl, rfl, rfl, rfl, rfl⟩ | others := hi
      · exact ⟨encode_ofLd_atHL_reg r, exec_ofLd_atHL_reg r s⟩
      · rcases others with ⟨rfl, rfl, rfl, rfl, rfl⟩ | ⟨rfl, rfl, rfl, rfl, rfl⟩ | ⟨rfl, rfl, rfl, rfl, rfl⟩ |
          ⟨rfl, rfl, rfl, rfl, rfl⟩ | ⟨rfl, rfl, rfl, rfl, rfl⟩ | ⟨rfl, rfl, rfl, rfl, rfl⟩ <;> exact ⟨rfl, rfl⟩
    rw [hexec]
    exact ⟨hbytes, fun hw => write8_andThen_finish hw c⟩
  · intro i bytes step hi
    obtain ⟨hbytes, hexec⟩ : encode i = bytes ∧ exec i s = storeAStepHL step s := by
      simp only [List.mem_cons, List.not_mem_nil, or_false, Prod.mk.injEq] at hi
      rcases hi with ⟨rfl, rfl, rfl⟩ | ⟨rfl, rfl, rfl⟩ <;> exact ⟨rfl, rfl⟩
    rw [hexec]
    exact ⟨hbytes, fun hw => storeAStepHL_next hw step⟩

/-- Settles O36: SP is the word written. -/
theorem storeStackPointer : Obligations.StoreStackPointer := by
  unfold Obligations.StoreStackPointer
  refine fun a s => ⟨rfl, fun hw => ?_⟩
  obtain ⟨t, hwrite, hstored, hregs, -⟩ := write16_ok a s.regs.sp s hw
  have hexec : exec (.ld_atA16_SP a) s = done 20 t := by
    show ldAtA16SP a s = done 20 t
    rw [ldAtA16SP, hwrite]
    rfl
  exact ⟨_, hexec, hstored.to_regs t.regs 20, hregs, rfl⟩

/-- Settles O38: the pair is read before SP moves. -/
theorem pushStoresPair : Obligations.PushStoresPair := by
  unfold Obligations.PushStoresPair
  refine ⟨encode_ofPush, fun q s hw => ?push, fun s => ⟨rfl, rfl, rfl, highByte_wordOf _ _, lowByte_wordOf _ _⟩⟩
  obtain ⟨t, hpush, hstored, hregs, -⟩ := push16_ok (s.stackPair q) s hw
  have hexec : exec (.ofPush q) s = done 16 t := by
    rw [exec_ofPush, pushPair, hpush]
    rfl
  exact ⟨_, hexec, hstored.to_regs t.regs 16, hregs, rfl⟩

end Sys2Proof.Machine
end

section
/-! PROOFS. 8-bit arithmetic and logic (41_alu8.md): what each computation of Flags.lean gives in integers; how an
instruction that writes one register and F ends; the families assembled from the two. -/

namespace Sys2Proof.Machine

/-! ## The operation a member of a family runs, and its bytes (30_encoding.md R102, R106, R119) -/

@[simp] theorem exec_ofAlu_reg (o : AluOp) (r : Reg8) (s : State) : exec (.ofAlu o (.reg r)) s = aluReg o r s := by
  cases o <;> cases r <;> rfl

@[simp] theorem exec_ofAlu_atHL (o : AluOp) (s : State) : exec (.ofAlu o .atHL) s = aluAtHL o s := by cases o <;> rfl

@[simp] theorem exec_ofAluImm (o : AluOp) (n : Byte) (s : State) : exec (.ofAluImm o n) s = aluImm o n s := by
  cases o <;> rfl

@[simp] theorem exec_ofInc8_reg (dst : Reg8) (s : State) : exec (.ofInc8 (.reg dst)) s = incReg dst s := by
  cases dst <;> rfl

@[simp] theorem exec_ofDec8_reg (dst : Reg8) (s : State) : exec (.ofDec8 (.reg dst)) s = decReg dst s := by
  cases dst <;> rfl

theorem encode_ofAlu_reg (o : AluOp) (r : Reg8) :
    encode (.ofAlu o (.reg r)) = [opByte (128 + 8 * aluField o + regField r)] := by cases o <;> cases r <;> rfl

theorem encode_ofAlu_atHL (o : AluOp) : encode (.ofAlu o .atHL) = [opByte (134 + 8 * aluField o)] := by
  cases o <;> rfl

theorem encode_ofAluImm (o : AluOp) (n : Byte) : encode (.ofAluImm o n) = [opByte (198 + 8 * aluField o), n] := by
  cases o <;> rfl

theorem encode_ofInc8_reg (dst : Reg8) : encode (.ofInc8 (.reg dst)) = [opByte (8 * regField dst + 4)] := by
  cases dst <;> rfl

theorem encode_ofDec8_reg (dst : Reg8) : encode (.ofDec8 (.reg dst)) = [opByte (8 * regField dst + 5)] := by
  cases dst <;> rfl

/-! ## Bytes as integers -/

/-- The model's test of a result byte for Z. -/
theorem byte_beq_eq_decide (v w : Byte) : (v == w) = decide (v.toNat = w.toNat) := by
  rw [Bool.beq_eq_decide_eq]
  exact decide_eq_decide.2 BitVec.toNat_eq

theorem lowNibble_toNat (v : Byte) : (v &&& 0xF).toNat = v.toNat % 16 := by
  rw [BitVec.toNat_and]
  exact Nat.and_two_pow_sub_one_eq_mod v.toNat 4

theorem bit7_eq_decide (v : Byte) : v.getLsbD 7 = decide (128 ≤ v.toNat) := BitVec.msb_eq_decide v

theorem bit0_eq_decide (v : Byte) : v.getLsbD 0 = decide (v.toNat % 2 = 1) := Nat.testBit_zero v.toNat

/-! ## Sums and differences (41_alu8.md R160, R161, R186, R188) -/

theorem add8_value (a b : Byte) (c : Bool) : (add8 a b c).1.toNat = (a.toNat + b.toNat + c.toNat) % 256 :=
  BitVec.toNat_ofNat _ _

/-- Z is tested on the truncated sum (90_conflicts.md C3). -/
theorem add8_flags (a b : Byte) (c : Bool) :
    (add8 a b c).2 = packF (decide ((a.toNat + b.toNat + c.toNat) % 256 = 0)) false
      (decide (a.toNat % 16 + b.toNat % 16 + c.toNat > 15)) (decide (a.toNat + b.toNat + c.toNat > 255)) := by
  rw [← add8_value]
  show packF ((add8 a b c).1 == 0) _ _ _ = _
  rw [byte_beq_eq_decide]
  rfl

/-- The wrapped difference in naturals: 512 covers the largest operand and the borrow. -/
theorem sub8_value (a b : Byte) (c : Bool) : (sub8 a b c).1.toNat = (a.toNat + 512 - b.toNat - c.toNat) % 256 := by
  have hb := b.isLt
  have hc := c.toNat_le
  show (BitVec.ofInt 8 ((a.toNat : Int) - b.toNat - c.toNat)).toNat = _
  rw [BitVec.toNat_ofInt]
  omega

/-- The signed borrows of the spec are comparisons of naturals. -/
theorem sub8_flags (a b : Byte) (c : Bool) :
    (sub8 a b c).2 = packF (decide ((a.toNat + 512 - b.toNat - c.toNat) % 256 = 0)) true
      (decide (a.toNat % 16 < b.toNat % 16 + c.toNat)) (decide (a.toNat < b.toNat + c.toNat)) := by
  have half : (a.toNat : Int) % 16 - (b.toNat : Int) % 16 - c.toNat < 0 ↔ a.toNat % 16 < b.toNat % 16 + c.toNat := by
    omega
  have borrow : (a.toNat : Int) - b.toNat - c.toNat < 0 ↔ a.toNat < b.toNat + c.toNat := by omega
  rw [← sub8_value, ← decide_eq_decide.2 half, ← decide_eq_decide.2 borrow]
  show packF ((sub8 a b c).1 == 0) _ _ _ = _
  rw [byte_beq_eq_decide]
  rfl

theorem inc8_value (v : Byte) (c : Bool) : (inc8 v c).1.toNat = (v.toNat + 1) % 256 := BitVec.toNat_add v 1

theorem inc8_flags (v : Byte) (c : Bool) :
    (inc8 v c).2 = packF (decide (v.toNat = 255)) false (decide (v.toNat % 16 = 15)) c := by
  have hv := v.isLt
  have zero : (inc8 v c).1.toNat = 0 ↔ v.toNat = 255 := by rw [inc8_value]; omega
  show packF ((inc8 v c).1 == 0) false (v &&& 0xF == 0xF) c = _
  rw [byte_beq_eq_decide, byte_beq_eq_decide, lowNibble_toNat, ← decide_eq_decide.2 zero]
  rfl

theorem dec8_value (v : Byte) (c : Bool) : (dec8 v c).1.toNat = (v.toNat + 255) % 256 := by
  show (v - 1).toNat = _
  rw [BitVec.toNat_sub, Nat.add_comm]
  rfl

theorem dec8_flags (v : Byte) (c : Bool) :
    (dec8 v c).2 = packF (decide (v.toNat = 1)) true (decide (v.toNat % 16 = 0)) c := by
  have hv := v.isLt
  have zero : (dec8 v c).1.toNat = 0 ↔ v.toNat = 1 := by rw [dec8_value]; omega
  show packF ((dec8 v c).1 == 0) true (v &&& 0xF == 0) c = _
  rw [byte_beq_eq_decide, byte_beq_eq_decide, lowNibble_toNat, ← decide_eq_decide.2 zero]
  rfl

/-! ## Rotates and shifts (41_alu8.md R190-R193; 45_cb_bitops.md R251-R265) -/

theorem bitByte_toNat (b : Bool) : (bitByte b).toNat = b.toNat := by cases b <;> rfl

/-- An OR of bytes whose bits do not meet is a sum. -/
theorem or_toNat_of_lt {x y : Byte} (k : Nat) (hx : x.toNat % 2 ^ k = 0) (hy : y.toNat < 2 ^ k) :
    (x ||| y).toNat = x.toNat + y.toNat := by
  have hshift : x.toNat = (x.toNat / 2 ^ k) <<< k := by
    rw [Nat.shiftLeft_eq, Nat.div_mul_cancel (Nat.dvd_of_mod_eq_zero hx)]
  rw [BitVec.toNat_or, hshift, Nat.shiftLeft_add_eq_or_of_lt hy]

theorem shiftLeft_one_toNat (v : Byte) : (v <<< 1).toNat = 2 * v.toNat % 256 := by
  rw [BitVec.toNat_shiftLeft, Nat.shiftLeft_eq, Nat.mul_comm]

theorem shiftRight_one_toNat (v : Byte) : (v >>> 1).toNat = v.toNat / 2 := by
  rw [BitVec.toNat_ushiftRight, Nat.shiftRight_eq_div_pow]

/-- A shift to the left leaves room for the bit that comes in at the right. -/
theorem shiftLeft_or_bit_toNat (v : Byte) (b : Bool) : (v <<< 1 ||| bitByte b).toNat = 2 * v.toNat % 256 + b.toNat := by
  have hb := b.toNat_lt
  rw [or_toNat_of_lt 1 (by rw [shiftLeft_one_toNat]; omega) (by rw [bitByte_toNat]; omega), shiftLeft_one_toNat,
    bitByte_toNat]

/-- A shift to the right leaves room for the bit that comes in at the left. -/
theorem shiftRight_or_bit_toNat (v : Byte) (b : Bool) :
    (v >>> 1 ||| bitByte b <<< 7).toNat = v.toNat / 2 + 128 * b.toNat := by
  have hv := v.isLt
  have htop : (bitByte b <<< 7).toNat = 128 * b.toNat := by cases b <;> rfl
  rw [BitVec.or_comm, or_toNat_of_lt 7 (by rw [htop]; omega) (by rw [shiftRight_one_toNat]; omega), htop,
    shiftRight_one_toNat, Nat.add_comm]

theorem bit7_toNat (v : Byte) : (v.getLsbD 7).toNat = v.toNat / 128 := by
  have hv := v.isLt
  have hbit : (v.getLsbD 7).toNat = v.toNat / 2 ^ 7 % 2 := Nat.toNat_testBit v.toNat 7
  omega

theorem bit0_toNat (v : Byte) : (v.getLsbD 0).toNat = v.toNat % 2 := by
  have hbit : (v.getLsbD 0).toNat = v.toNat / 2 ^ 0 % 2 := Nat.toNat_testBit v.toNat 0
  omega

/-- The mask of SRA keeps bit 7 alone. -/
theorem and_0x80_eq_bit7 (v : Byte) : v &&& (0x80 : Byte) = bitByte (v.getLsbD 7) <<< 7 := by
  apply BitVec.eq_of_toNat_eq
  have htop : ∀ b : Bool, (bitByte b <<< 7).toNat = b.toNat * 2 ^ 7 := by decide
  rw [htop, BitVec.toNat_and]
  exact Nat.and_two_pow v.toNat 7

theorem swap_toNat (v : Byte) : ((v &&& 0x0F) <<< 4 ||| v >>> 4).toNat = 16 * (v.toNat % 16) + v.toNat / 16 := by
  have hv := v.isLt
  have low : ((v &&& 0x0F) <<< 4).toNat = 16 * (v.toNat % 16) := by
    rw [BitVec.toNat_shiftLeft, lowNibble_toNat, Nat.shiftLeft_eq]
    omega
  have high : (v >>> 4).toNat = v.toNat / 16 := by rw [BitVec.toNat_ushiftRight, Nat.shiftRight_eq_div_pow]
  rw [or_toNat_of_lt 4 (by rw [low]; omega) (by rw [high]; omega), low, high]

theorem rotResult_value (o : RotOp) (v : Byte) (c : Bool) :
    (rotResult o v c).1.toNat = rotValue o v.toNat c.toNat := by
  cases o
  case rlc => exact (shiftLeft_or_bit_toNat v _).trans (by rw [bit7_toNat, rotValue])
  case rrc => exact (shiftRight_or_bit_toNat v _).trans (by rw [bit0_toNat, rotValue])
  case rl => exact shiftLeft_or_bit_toNat v c
  case rr => exact shiftRight_or_bit_toNat v c
  case sla => exact shiftLeft_one_toNat v
  case sra =>
    show (v >>> 1 ||| v &&& (0x80 : Byte)).toNat = _
    rw [and_0x80_eq_bit7, shiftRight_or_bit_toNat, bit7_toNat, rotValue]
  case swap => exact swap_toNat v
  case srl => exact shiftRight_one_toNat v

theorem rotResult_out (o : RotOp) (v : Byte) (c : Bool) : (rotResult o v c).2 = rotOut o v.toNat := by
  cases o
  case rlc | rl | sla => exact bit7_eq_decide v
  case rrc | rr | sra | srl => exact bit0_eq_decide v
  case swap => rfl

/-! ## Decimal adjustment (41_alu8.md R194) -/

/-- C after DAA: raised after an addition only, by A as it was. -/
def daaCarry (a : Nat) (n c : Bool) : Bool := c || (!n && decide (a > 0x99))

/-- What DAA adds, or takes off after a subtraction. -/
def daaAdjustment (a : Nat) (n h c : Bool) : Nat :=
  (if h = true ∨ (n = false ∧ a % 16 > 9) then 0x06 else 0) + if daaCarry a n c then 0x60 else 0

/-- A after DAA. -/
def daaValue (a : Nat) (n h c : Bool) : Nat :=
  if n then (a + 256 - daaAdjustment a n h c) % 256 else (a + daaAdjustment a n h c) % 256

/-- The two corrections do not meet. -/
theorem corrections_toNat (x y : Bool) :
    ((if x then 0x06 else 0 : Byte) ||| (if y then 0x60 else 0)).toNat =
      (if x then 0x06 else 0) + if y then 0x60 else 0 := by
  revert x y; decide

theorem daaAdjustment_le (a : Nat) (n h c : Bool) : daaAdjustment a n h c ≤ 0x66 := by
  unfold daaAdjustment
  split <;> split <;> omega

theorem daa8_value (a : Byte) (n h c : Bool) : (daa8 a n h c).1.toNat = daaValue a.toNat n h c := by
  cases n
  case false =>
    show (a + _).toNat = (a.toNat + daaAdjustment a.toNat false h c) % 256
    rw [BitVec.toNat_add, corrections_toNat]
    simp [daaAdjustment, daaCarry]
  case true =>
    have hadj : ((if h then 0x06 else 0) + if c then 0x60 else 0) = daaAdjustment a.toNat true h c := by
      simp [daaAdjustment, daaCarry]
    have hle := daaAdjustment_le a.toNat true h c
    show (a - _).toNat = (a.toNat + 256 - daaAdjustment a.toNat true h c) % 256
    rw [BitVec.toNat_sub, corrections_toNat, hadj]
    omega

theorem daa8_flags (a : Byte) (n h c : Bool) :
    (daa8 a n h c).2 = packF (decide (daaValue a.toNat n h c = 0)) n false (daaCarry a.toNat n c) := by
  rw [← daa8_value]
  cases n
  case false =>
    show packF ((daa8 a false h c).1 == 0) false false (c || decide (a.toNat > 0x99)) = _
    rw [byte_beq_eq_decide]
    rfl
  case true =>
    show packF ((daa8 a true h c).1 == 0) true false c = _
    rw [byte_beq_eq_decide]
    simp [daaCarry]

/-! ## Registers and flags after an operation -/

theorem flagC_of_regs {s t : State} (h : t.regs = s.regs) : t.flagC = s.flagC := by rw [State.flagC, State.flagC, h]

/-- The flags a computation packed, where F holds what it gave. -/
theorem flagsAre_of_packF {t : State} {f : Byte} {z n h c : Bool} (hf : f = packF z n h c)
    (ht : t.regs.f = f &&& 0xF0) : FlagsAre t z n h c := by
  rw [hf] at ht
  exact (writeFlags_flags t z n h c).of_f ht

/-- An instruction that writes F alone. -/
theorem done_writeF (s : State) {f : Byte} {z n h c : Bool} (hf : f = packF z n h c) (cost : Nat) :
    ∃ t, done cost (s.writeF f) = .next t ∧ FlagsAre t z n h c ∧ KeepsReg8 [] s t ∧ KeepsSpPc s t ∧ t.cost = cost ∧
      OnlyRegs s t :=
  ⟨_, rfl, flagsAre_of_packF hf rfl, fun r _ => writeF_reg8 s f r, ⟨rfl, rfl⟩, rfl, .of_regs s _ cost⟩

/-- An instruction that writes a register and F. -/
theorem done_setReg8_writeF (s : State) (dst : Reg8) {v f : Byte} {k : Nat} {z n h c : Bool} (hv : v.toNat = k)
    (hf : f = packF z n h c) (cost : Nat) :
    ∃ t, done cost ((s.setReg8 dst v).writeF f) = .next t ∧ (t.reg8 dst).toNat = k ∧ FlagsAre t z n h c ∧
      KeepsReg8 [dst] s t ∧ KeepsSpPc s t ∧ t.cost = cost ∧ OnlyRegs s t := by
  refine ⟨_, rfl, ?value, flagsAre_of_packF hf rfl, fun r hr => ?others, ?spPc, rfl,
    (OnlyRegs.setReg8 s dst v).trans (.of_regs _ _ cost)⟩
  case value =>
    have hreg : ((s.setReg8 dst v).writeF f).reg8 dst = v := by simp
    exact (congrArg BitVec.toNat hreg).trans hv
  case others =>
    have hne : r ≠ dst := fun e => hr (List.mem_singleton.2 e)
    exact (writeF_reg8 _ f r).trans (setReg8_reg8_ne s dst r v hne)
  case spPc => simp [KeepsSpPc]

/-! ## Operations on A and an operand (41_alu8.md R162-R185) -/

/-- CP alone leaves A. -/
theorem applyAlu_regs_a (o : AluOp) (v : Byte) (s : State) :
    (applyAlu o v s).regs.a = if o = .cp then s.regs.a else (aluResult o s.regs.a v s.flagC).1 := by cases o <;> rfl

@[simp] theorem applyAlu_regs_f (o : AluOp) (v : Byte) (s : State) :
    (applyAlu o v s).regs.f = (aluResult o s.regs.a v s.flagC).2 &&& 0xF0 := by cases o <;> rfl

@[simp] theorem applyAlu_regs_sp (o : AluOp) (v : Byte) (s : State) : (applyAlu o v s).regs.sp = s.regs.sp := by
  cases o <;> rfl

@[simp] theorem applyAlu_regs_pc (o : AluOp) (v : Byte) (s : State) : (applyAlu o v s).regs.pc = s.regs.pc := by
  cases o <;> rfl

theorem applyAlu_reg8_ne (o : AluOp) (v : Byte) (s : State) (r : Reg8) (h : r ≠ .a) :
    (applyAlu o v s).reg8 r = s.reg8 r := by
  cases r
  case a => exact absurd rfl h
  all_goals cases o <;> rfl

theorem OnlyRegs.applyAlu (o : AluOp) (v : Byte) (s : State) : OnlyRegs s (applyAlu o v s) := by
  cases o <;> exact .of_regs s _ s.cost

/-- The effect in integers, where A and F hold what `aluResult` gave. -/
theorem AluEffect.of_aluResult {o : AluOp} {v : Byte} {s t : State}
    (ha : t.regs.a = if o = .cp then s.regs.a else (aluResult o s.regs.a v s.flagC).1)
    (hf : t.regs.f = (aluResult o s.regs.a v s.flagC).2 &&& 0xF0) : AluEffect o v s t := by
  cases o
  case add => exact ⟨ha ▸ add8_value s.regs.a v false, flagsAre_of_packF (add8_flags s.regs.a v false) hf⟩
  case adc => exact ⟨ha ▸ add8_value s.regs.a v s.flagC, flagsAre_of_packF (add8_flags s.regs.a v s.flagC) hf⟩
  case sub => exact ⟨ha ▸ sub8_value s.regs.a v false, flagsAre_of_packF (sub8_flags s.regs.a v false) hf⟩
  case sbc => exact ⟨ha ▸ sub8_value s.regs.a v s.flagC, flagsAre_of_packF (sub8_flags s.regs.a v s.flagC) hf⟩
  case and => exact ⟨ha, flagsAre_of_packF rfl hf⟩
  case xor => exact ⟨ha, flagsAre_of_packF rfl hf⟩
  case or => exact ⟨ha, flagsAre_of_packF rfl hf⟩
  case cp =>
    have zero : (s.regs.a.toNat + 512 - v.toNat - 0) % 256 = 0 ↔ s.regs.a.toNat = v.toNat := by
      have ha := s.regs.a.isLt
      have hv := v.isLt
      omega
    have flags := sub8_flags s.regs.a v false
    rw [Bool.toNat_false, decide_eq_decide.2 zero] at flags
    exact ⟨ha, flagsAre_of_packF flags hf⟩

/-- An instruction that is the operation `o` on A and `v`, `u` being `s` after the operand's read. -/
theorem aluRuns_of_exec {i : Instr} {o : AluOp} {v : Byte} {n : Nat} {s u : State} (same : u.regs = s.regs)
    (hexec : exec i s = done n (applyAlu o v u)) : AluRuns i o v n s u := by
  have hflagC := flagC_of_regs same
  refine ⟨_, hexec, .of_aluResult ?a ?f, fun r hr => ?others, ⟨?sp, ?pc⟩, rfl, (OnlyRegs.applyAlu o v u).withCost n⟩
  case a => simp [applyAlu_regs_a, same, hflagC]
  case f => simp [same, hflagC]
  case others =>
    have hne : r ≠ .a := fun e => hr (List.mem_singleton.2 e)
    exact (applyAlu_reg8_ne o v u r hne).trans (reg8_of_regs same r)
  case sp => simp [same]
  case pc => simp [same]

/-- Each form of `o` runs it: the (HL) form on the byte read, the others on a byte at hand. -/
theorem aluForms_run (o : AluOp) (s : State) :
    (∀ r, encode (.ofAlu o (.reg r)) = [opByte (128 + 8 * aluField o + regField r)] ∧
      AluRuns (.ofAlu o (.reg r)) o (s.reg8 r) 4 s s) ∧
    (∀ n, encode (.ofAluImm o n) = [opByte (198 + 8 * aluField o), n] ∧ AluRuns (.ofAluImm o n) o n 8 s s) ∧
    encode (.ofAlu o .atHL) = [opByte (134 + 8 * aluField o)] ∧
    (s.readable s.hl → AluRuns (.ofAlu o .atHL) o (s.readValue s.hl) 8 s (s.drawn s.hl)) := by
  refine ⟨fun r => ⟨encode_ofAlu_reg o r, aluRuns_of_exec rfl (exec_ofAlu_reg o r s)⟩,
    fun n => ⟨encode_ofAluImm o n, aluRuns_of_exec rfl (exec_ofAluImm o n s)⟩, encode_ofAlu_atHL o, fun hr => ?_⟩
  have hexec : exec (.ofAlu o .atHL) s = done 8 (applyAlu o (s.readValue s.hl) (s.drawn s.hl)) := by
    rw [exec_ofAlu_atHL, aluAtHL, read8_andThen_finish hr 8 (applyAlu o)]
  exact aluRuns_of_exec (drawn_regs s s.hl) hexec

/-- Settles O40: `add8` gives the sum and the carries (`add8_value`, `add8_flags`), ADC's with F.C. -/
theorem additionsWriteSumAndCarries : Obligations.AdditionsWriteSumAndCarries := fun o _ s => aluForms_run o s

/-- Settles O41: `sub8` gives the difference and the borrows (`sub8_value`, `sub8_flags`); CP drops the difference. -/
theorem subtractionsWriteDifferenceAndBorrows : Obligations.SubtractionsWriteDifferenceAndBorrows :=
  fun o _ s => aluForms_run o s

/-- Settles O42: the result and its flags stand in `AluEffect` as the model computes them. -/
theorem logicWritesResultAndZero : Obligations.LogicWritesResultAndZero := fun o _ s => aluForms_run o s

/-! ## INC and DEC (41_alu8.md R186-R189) -/

/-- Settles O43: the register and F are written from the register as it was. -/
theorem incDecRegister : Obligations.IncDecRegister := by
  unfold Obligations.IncDecRegister
  intro dst s v
  refine ⟨encode_ofInc8_reg dst, encode_ofDec8_reg dst, ?inc, ?dec⟩
  case inc =>
    rw [exec_ofInc8_reg]
    exact done_setReg8_writeF s dst (inc8_value (s.reg8 dst) s.flagC) (inc8_flags (s.reg8 dst) s.flagC) 4
  case dec =>
    rw [exec_ofDec8_reg]
    exact done_setReg8_writeF s dst (dec8_value (s.reg8 dst) s.flagC) (dec8_flags (s.reg8 dst) s.flagC) 4

/-- Read the byte at HL, write back what `f` makes of it and F.C, then write F: the shape of the (HL) forms of INC and
DEC. -/
def modifyAtHL (f : Byte → Bool → Byte × Byte) (n : Nat) (s : State) : Outcome :=
  ((read8 s.hl s).andThen fun v u =>
    (write8 u.hl (f v u.flagC).1 u).andThen fun _ w => .ok n (w.writeF (f v w.flagC).2)).finish

theorem incAtHL_eq (s : State) : incAtHL s = modifyAtHL inc8 12 s := rfl

theorem decAtHL_eq (s : State) : decAtHL s = modifyAtHL dec8 12 s := rfl

/-- The flags are those of the byte read, whatever the write does with the byte. -/
theorem modifyAtHL_next {s : State} {f : Byte → Bool → Byte × Byte} {w : Byte} {z n h c : Bool} (cost : Nat)
    (hr : s.readable s.hl) (hf : f (s.readValue s.hl) s.flagC = (w, packF z n h c)) (hw : s.writable s.hl w) :
    ∃ t, modifyAtHL f cost s = .next t ∧ Stored (s.drawn s.hl) s.hl w t ∧ FlagsAre t z n h c ∧
      t.regs = { s.regs with f := t.regs.f } ∧ t.cost = cost := by
  have hdrawn : (s.drawn s.hl).regs = s.regs := drawn_regs s s.hl
  obtain ⟨t, hwrite, hstored, hregs, -⟩ := write8_ok s.hl w (s.drawn s.hl)
    ((writable_congr (drawn_romSize s s.hl) s.hl w).2 hw)
  have hregs' : t.regs = s.regs := hregs.trans hdrawn
  have hexec : modifyAtHL f cost s = done cost (t.writeF (packF z n h c)) := by
    rw [modifyAtHL, read8_ok s.hl s hr]
    simp only [Res.andThen]
    rw [hl_of_regs hdrawn, flagC_of_regs hdrawn, hf, hwrite]
    simp only [flagC_of_regs hregs', hf]
    rfl
  refine ⟨_, hexec, hstored.to_regs _ cost, writeF_flags t z n h c, ?regs, rfl⟩
  exact congrArg (fun r : Regs => { r with f := packF z n h c &&& 0xF0 }) hregs'

/-- Settles O44: INC (HL) and DEC (HL) modify the byte at HL by the computations of INC r and DEC r. -/
theorem incDecAtHL : Obligations.IncDecAtHL := by
  unfold Obligations.IncDecAtHL
  refine ⟨rfl, rfl, fun s hr => ⟨fun hw => ?inc, fun hw => ?dec⟩⟩
  case inc => exact modifyAtHL_next 12 hr (Prod.ext rfl (inc8_flags (s.readValue s.hl) s.flagC)) hw
  case dec => exact modifyAtHL_next 12 hr (Prod.ext rfl (dec8_flags (s.readValue s.hl) s.flagC)) hw

/-! ## Rotates of A, operations on the flags, and DAA (41_alu8.md R190-R197) -/

/-- RLCA, RRCA, RLA, RRA: Z is cleared, whatever the result. -/
theorem rotA_next (o : RotOp) (s : State) :
    ∃ t, rotA o s = .next t ∧ t.regs.a.toNat = rotValue o s.regs.a.toNat s.flagC.toNat ∧
      FlagsAre t false false false (rotOut o s.regs.a.toNat) ∧ KeepsReg8 [.a] s t ∧ KeepsSpPc s t ∧ t.cost = 4 ∧
      OnlyRegs s t := by
  rw [← rotResult_out o s.regs.a s.flagC]
  exact done_setReg8_writeF s .a (rotResult_value o s.regs.a s.flagC) rfl 4

/-- Settles O45: each rotate is `rotA` of its operation; CPL writes A and F, SCF and CCF write F alone. -/
theorem accumulatorRotatesAndFlagOps : Obligations.AccumulatorRotatesAndFlagOps := by
  unfold Obligations.AccumulatorRotatesAndFlagOps
  refine ⟨rfl, rfl, rfl, fun s => ⟨?rotates, ?cpl, ?scf, ?ccf⟩⟩
  case rotates =>
    intro i b o hi
    obtain ⟨hbytes, hexec⟩ : encode i = [b] ∧ exec i s = rotA o s := by
      simp only [List.mem_cons, List.not_mem_nil, or_false, Prod.mk.injEq] at hi
      rcases hi with ⟨rfl, rfl, rfl⟩ | ⟨rfl, rfl, rfl⟩ | ⟨rfl, rfl, rfl⟩ | ⟨rfl, rfl, rfl⟩ <;> exact ⟨rfl, rfl⟩
    rw [hexec]
    exact ⟨hbytes, rotA_next o s⟩
  case cpl =>
    have value : (~~~s.regs.a).toNat = 255 - s.regs.a.toNat := BitVec.toNat_not
    exact done_setReg8_writeF s .a value rfl 4
  case scf => exact done_writeF s rfl 4
  case ccf => exact done_writeF s rfl 4

/-- Settles O46: A and F are written from A and F as they were. -/
theorem decimalAdjustByFlags : Obligations.DecimalAdjustByFlags := by
  unfold Obligations.DecimalAdjustByFlags
  refine ⟨rfl, fun s => ?_⟩
  exact done_setReg8_writeF s .a (daa8_value s.regs.a s.flagN s.flagH s.flagC)
    (daa8_flags s.regs.a s.flagN s.flagH s.flagC) 4

end Sys2Proof.Machine
end

section
/-! PROOFS. 16-bit arithmetic (42_alu16.md): what each computation gives in integers; how an instruction that writes one
pair, or one pair and F, ends; the families assembled from the two. -/

namespace Sys2Proof.Machine

/-! ## The operation a member of a family runs, and its bytes (30_encoding.md R103, R119) -/

@[simp] theorem exec_ofIncPair (p : Pair) (s : State) : exec (.ofIncPair p) s = incPair p s := by cases p <;> rfl

@[simp] theorem exec_ofDecPair (p : Pair) (s : State) : exec (.ofDecPair p) s = decPair p s := by cases p <;> rfl

@[simp] theorem exec_ofAddHL (p : Pair) (s : State) : exec (.ofAddHL p) s = addHL p s := by cases p <;> rfl

theorem encode_ofIncPair (p : Pair) : encode (.ofIncPair p) = [opByte (16 * pairField p + 3)] := by cases p <;> rfl

theorem encode_ofDecPair (p : Pair) : encode (.ofDecPair p) = [opByte (16 * pairField p + 11)] := by cases p <;> rfl

theorem encode_ofAddHL (p : Pair) : encode (.ofAddHL p) = [opByte (16 * pairField p + 9)] := by cases p <;> rfl

/-! ## Signed offsets (30_encoding.md R111) -/

/-- Adding the extended offset byte adds its signed reading, modulo 2^16. -/
theorem add_sext8_eq_ofInt (v : Word) (e : Byte) : v + sext8 e = BitVec.ofInt 16 ((v.toNat : Int) + e.toInt) := by
  have hoffset : sext8 e = BitVec.ofInt 16 e.toInt := rfl
  rw [BitVec.ofInt_add, BitVec.ofInt_natCast, BitVec.ofNat_toNat, BitVec.setWidth_eq, hoffset]

theorem add_sext8_toNat (v : Word) (e : Byte) :
    ((v + sext8 e).toNat : Int) = ((v.toNat : Int) + e.toInt) % 65536 := by
  have hnonneg : 0 ≤ ((v.toNat : Int) + e.toInt) % 65536 := Int.emod_nonneg _ (by decide)
  rw [add_sext8_eq_ofInt, BitVec.toNat_ofInt]
  exact Int.toNat_of_nonneg hnonneg

/-! ## Pairs and flags after an operation -/

/-- An instruction that writes a pair and no flag. -/
theorem done_setPair (s : State) (p : Pair) {v : Word} {k : Nat} (hv : v.toNat = k) (cost : Nat) :
    ∃ t, done cost (s.setPair p v) = .next t ∧ (t.pair p).toNat = k ∧ KeepsReg8 (pairParts p) s t ∧
      (p ≠ .sp → t.regs.sp = s.regs.sp) ∧ t.regs.f = s.regs.f ∧ t.regs.pc = s.regs.pc ∧ t.cost = cost ∧
      OnlyRegs s t := by
  refine ⟨_, rfl, ?value, setPair_reg8 s p v, fun hp => ?sp, setPair_regs_f s p v, setPair_regs_pc s p v, rfl,
    (OnlyRegs.setPair s p v).withCost cost⟩
  case value => exact (congrArg BitVec.toNat (setPair_pair s p v)).trans hv
  case sp => exact (setPair_sp s p v).trans (if_neg hp)

/-- An instruction that writes a pair and F. -/
theorem done_setPair_writeF (s : State) (p : Pair) (v : Word) {f : Byte} {z n h c : Bool} (hf : f = packF z n h c)
    (cost : Nat) :
    ∃ t, done cost ((s.setPair p v).writeF f) = .next t ∧ t.pair p = v ∧ FlagsAre t z n h c ∧
      KeepsReg8 (pairParts p) s t ∧ (p ≠ .sp → t.regs.sp = s.regs.sp) ∧ t.regs.pc = s.regs.pc ∧ t.cost = cost ∧
      OnlyRegs s t := by
  refine ⟨_, rfl, setPair_pair s p v, flagsAre_of_packF hf rfl, fun r hr => ?others, fun hp => ?sp,
    setPair_regs_pc s p v, rfl, (OnlyRegs.setPair s p v).trans (.of_regs _ _ cost)⟩
  case others => exact (writeF_reg8 _ f r).trans (setPair_reg8 s p v r hr)
  case sp => exact (setPair_sp s p v).trans (if_neg hp)

/-! ## ADD HL,rr; ADD SP,e8; LD HL,SP+e8 (42_alu16.md R212-R214) -/

/-- Settles O49: `addHL16` and `addSPe8` pack their flags from the integer sums the statement names, so only the results
need arithmetic; each instruction then writes one pair and F. -/
theorem sixteenBitAdditions : Obligations.SixteenBitAdditions := by
  unfold Obligations.SixteenBitAdditions
  intro s p e hl v sp half carry
  refine ⟨encode_ofAddHL p, rfl, rfl, ?addHL, ?addSP, ?ldHLSP⟩
  case addHL =>
    rw [exec_ofAddHL]
    obtain ⟨t, hnext, hval, hflags, hothers, hsp, hpc, hcost, honly⟩ :=
      done_setPair_writeF s .hl (addHL16 s.hl (s.pair p) s.flagZ).1 rfl 8
    have hsum : t.hl.toNat = (hl + v) % 65536 := (congrArg BitVec.toNat hval).trans (BitVec.toNat_ofNat _ _)
    exact ⟨t, hnext, hsum, hflags, hothers, ⟨hsp (by decide), hpc⟩, hcost, honly⟩
  case addSP =>
    obtain ⟨t, hnext, hval, hflags, hothers, -, hpc, hcost, honly⟩ :=
      done_setPair_writeF s .sp (addSPe8 s.regs.sp e).1 rfl 16
    have hresult : t.regs.sp = s.regs.sp + sext8 e := hval
    have hsum : (t.regs.sp.toNat : Int) = ((sp : Int) + e.toInt) % 65536 := hresult ▸ add_sext8_toNat s.regs.sp e
    exact ⟨t, hnext, hsum, hflags, hothers, hpc, hcost, honly⟩
  case ldHLSP =>
    obtain ⟨t, hnext, hval, hflags, hothers, hsp, hpc, hcost, honly⟩ :=
      done_setPair_writeF s .hl (addSPe8 s.regs.sp e).1 rfl 12
    have hresult : t.hl = s.regs.sp + sext8 e := hval
    have hsum : (t.hl.toNat : Int) = ((sp : Int) + e.toInt) % 65536 := hresult ▸ add_sext8_toNat s.regs.sp e
    exact ⟨t, hnext, hsum, hflags, hothers, ⟨hsp (by decide), hpc⟩, hcost, honly⟩

/-! ## INC rr and DEC rr (42_alu16.md R210, R211) -/

/-- Settles O48: the pair alone is written. -/
theorem incDecPair : Obligations.IncDecPair := by
  unfold Obligations.IncDecPair
  intro p s
  refine ⟨encode_ofIncPair p, encode_ofDecPair p, ?inc, ?dec⟩
  case inc =>
    rw [exec_ofIncPair]
    exact done_setPair s p (BitVec.toNat_add (s.pair p) 1) 8
  case dec =>
    have hpred : (s.pair p - 1).toNat = ((s.pair p).toNat + 65535) % 65536 := by
      rw [BitVec.toNat_sub, Nat.add_comm]
      rfl
    rw [exec_ofDecPair]
    exact done_setPair s p hpred 8

end Sys2Proof.Machine
end

section
/-! PROOFS. Jumps, calls, returns and restarts (43_control.md): the operation each member of a family runs and its bytes;
what each operation leaves, where its condition holds and where it does not. -/

namespace Sys2Proof.Machine

/-! ## The operation a member of a family runs -/

@[simp] theorem exec_ofJp (cc : Cond) (a : Word) (s : State) : exec (.ofJp cc a) s = jumpIf cc a s := by cases cc <;> rfl

@[simp] theorem exec_ofJr (cc : Cond) (e : Byte) (s : State) : exec (.ofJr cc e) s = jumpRelativeIf cc e s := by
  cases cc <;> rfl

@[simp] theorem exec_ofCall (cc : Cond) (a : Word) (s : State) : exec (.ofCall cc a) s = callIf cc a s := by
  cases cc <;> rfl

@[simp] theorem exec_ofRst (k : Fin 8) (s : State) : exec (.ofRst k) s = call 16 (BitVec.ofNat 16 (8 * k.val)) s := by
  fin_cases k <;> rfl

@[simp] theorem exec_ofRet (cc : Cond) (s : State) : exec (.ofRet cc) s = retIf cc s := by cases cc <;> rfl

/-! ## Its bytes (30_encoding.md R105, R107, R119) -/

theorem encode_ofJp (cc : Cond) (a : Word) :
    encode (.ofJp cc a) = [opByte (194 + 8 * condField cc), lowByte a, highByte a] := by cases cc <;> rfl

theorem encode_ofJr (cc : Cond) (e : Byte) : encode (.ofJr cc e) = [opByte (32 + 8 * condField cc), e] := by
  cases cc <;> rfl

theorem encode_ofCall (cc : Cond) (a : Word) :
    encode (.ofCall cc a) = [opByte (196 + 8 * condField cc), lowByte a, highByte a] := by cases cc <;> rfl

theorem encode_ofRst (k : Fin 8) : encode (.ofRst k) = [opByte (199 + 8 * k.val)] := by fin_cases k <;> rfl

theorem encode_ofRet (cc : Cond) : encode (.ofRet cc) = [opByte (192 + 8 * condField cc)] := by cases cc <;> rfl

/-! ## Jumps (43_control.md R220-R225) -/

/-- An instruction that writes PC alone. -/
theorem done_setPC (s : State) (pc : Word) (n : Nat) :
    ∃ t, done n (s.setPC pc) = .next t ∧ t.regs = { s.regs with pc := pc } ∧ t.cost = n ∧ OnlyRegs s t :=
  ⟨_, rfl, rfl, rfl, .of_regs s _ n⟩

/-- An instruction that changes nothing, as one whose condition does not hold: PC is written as it is. -/
theorem done_unchanged (s : State) (n : Nat) :
    ∃ t, done n s = .next t ∧ t.regs = s.regs ∧ t.cost = n ∧ OnlyRegs s t := done_setPC s s.regs.pc n

theorem jumpIf_eq (cc : Cond) (a : Word) (s : State) :
    jumpIf cc a s = done (if s.cond cc then 16 else 12) (s.setPC (if s.cond cc then a else s.regs.pc)) := by
  unfold jumpIf
  split <;> rfl

theorem jumpRelativeIf_eq (cc : Cond) (e : Byte) (s : State) :
    jumpRelativeIf cc e s =
      done (if s.cond cc then 12 else 8) (s.setPC (if s.cond cc then relativeTarget e s else s.regs.pc)) := by
  unfold jumpRelativeIf
  split <;> rfl

theorem relativeTarget_eq_ofInt (e : Byte) (s : State) :
    relativeTarget e s = BitVec.ofInt 16 ((s.regs.pc.toNat : Int) + e.toInt) := add_sext8_eq_ofInt s.regs.pc e

/-- Settles O50: every form ends as a write of PC, of PC itself where the condition does not hold. -/
theorem jumps : Obligations.Jumps := by
  unfold Obligations.Jumps
  intro s cc a e target holds i bytes pc c hi
  have hcond : s.cond cc = holds := by cases cc <;> rfl
  have htarget : relativeTarget e s = target := relativeTarget_eq_ofInt e s
  obtain ⟨hbytes, hexec⟩ : encode i = bytes ∧ exec i s = done c (s.setPC pc) := by
    simp only [List.mem_cons, List.not_mem_nil, or_false, Prod.mk.injEq] at hi
    rcases hi with ⟨rfl, rfl, rfl, rfl⟩ | ⟨rfl, rfl, rfl, rfl⟩ | ⟨rfl, rfl, rfl, rfl⟩ | ⟨rfl, rfl, rfl, rfl⟩ |
      ⟨rfl, rfl, rfl, rfl⟩
    · exact ⟨rfl, rfl⟩
    · exact ⟨rfl, rfl⟩
    · exact ⟨rfl, htarget ▸ rfl⟩
    · exact ⟨encode_ofJp cc a, by rw [exec_ofJp, jumpIf_eq, hcond]⟩
    · exact ⟨encode_ofJr cc e, by rw [exec_ofJr, jumpRelativeIf_eq, hcond, htarget]⟩
  rw [hexec]
  exact ⟨hbytes, done_setPC s pc c⟩

/-! ## Calls and restarts (43_control.md R226, R227, R231) -/

theorem callIf_taken {cc : Cond} {s : State} (h : s.cond cc = true) (a : Word) : callIf cc a s = call 24 a s := if_pos h

theorem callIf_not_taken {cc : Cond} {s : State} (h : s.cond cc = false) (a : Word) : callIf cc a s = done 12 s :=
  if_neg (ne_true_of_eq_false h)

/-- A call pushes PC, which already stands past the instruction, before it writes it. -/
theorem call_next {s : State} (h : s.writable16 (s.regs.sp - 2) s.regs.pc) (n : Nat) (target : Word) :
    ∃ t, call n target s = .next t ∧ Stored16 s (s.regs.sp - 2) s.regs.pc t ∧
      t.regs = { s.regs with sp := s.regs.sp - 2, pc := target } ∧ t.cost = n := by
  obtain ⟨t, hpush, hstored, hregs, -⟩ := push16_ok s.regs.pc s h
  have hcall : call n target s = done n (t.setPC target) := by
    rw [call, hpush]
    rfl
  refine ⟨_, hcall, hstored.to_regs _ n, ?regs, rfl⟩
  case regs =>
    show { t.regs with pc := target } = _
    rw [hregs]

/-- Settles O51: every form that is taken is `call` at its target with its cost. -/
theorem callsPushReturnAddress : Obligations.CallsPushReturnAddress := by
  unfold Obligations.CallsPushReturnAddress
  refine fun s cc a k => ⟨rfl, encode_ofRst k, encode_ofCall cc a, fun hw i pc c hi => ?taken, fun hcond => ?not_taken⟩
  case taken =>
    have hexec : exec i s = call c pc s := by
      simp only [List.mem_cons, List.not_mem_nil, or_false, Prod.mk.injEq] at hi
      rcases hi with (⟨rfl, rfl, rfl⟩ | ⟨rfl, rfl, rfl⟩) | ⟨hcond, rfl, rfl, rfl⟩
      · rfl
      · exact exec_ofRst k s
      · exact (exec_ofCall cc pc s).trans (callIf_taken hcond pc)
    rw [hexec]
    exact call_next hw c pc
  case not_taken =>
    rw [exec_ofCall, callIf_not_taken hcond]
    exact done_unchanged s 12

/-! ## Returns (43_control.md R228-R230) -/

theorem retIf_taken {cc : Cond} {s : State} (h : s.cond cc = true) : retIf cc s = ret 20 s := if_pos h

theorem retIf_not_taken {cc : Cond} {s : State} (h : s.cond cc = false) : retIf cc s = done 8 s :=
  if_neg (ne_true_of_eq_false h)

@[simp] theorem drawn16_ime (s : State) (a : Word) : (s.drawn16 a).ime = s.ime := by simp [State.drawn16]

/-- The state after a return: the word at SP in PC, SP two higher, IME as given. -/
def State.returned (s : State) (ime : Bool) : State :=
  { s.drawn16 s.regs.sp with
    regs := { s.regs with sp := s.regs.sp + 2, pc := s.readValue16 s.regs.sp }, ime := ime }

theorem ret_eq {s : State} (h : s.readable16 s.regs.sp) (n : Nat) : ret n s = done n (s.returned s.ime) := by
  rw [ret, pop16_ok s h, State.returned, ← drawn16_ime s s.regs.sp]
  rfl

theorem retInterrupt_eq {s : State} (h : s.readable16 s.regs.sp) : retInterrupt s = done 16 (s.returned true) := by
  rw [retInterrupt, returnFromInterrupt_ok s h]
  rfl

/-- Settles O52: every form that is taken ends in `State.returned`, with its cost and its IME. -/
theorem returnsPopPc : Obligations.ReturnsPopPc := by
  unfold Obligations.ReturnsPopPc
  refine ⟨rfl, rfl, fun s cc => ⟨encode_ofRet cc, fun hr i c ime hi => ?taken, fun hcond => ?not_taken⟩⟩
  case taken =>
    have hexec : exec i s = done c (s.returned ime) := by
      simp only [List.mem_cons, List.not_mem_nil, or_false, Prod.mk.injEq] at hi
      rcases hi with (⟨rfl, rfl, rfl⟩ | ⟨rfl, rfl, rfl⟩) | ⟨hcond, rfl, rfl, rfl⟩
      · exact ret_eq hr 16
      · exact retInterrupt_eq hr
      · exact (exec_ofRet cc s).trans ((retIf_taken hcond).trans (ret_eq hr 20))
    exact ⟨_, hexec, rfl, rfl, .of_regs _ _ c⟩
  case not_taken =>
    rw [exec_ofRet, retIf_not_taken hcond]
    exact done_unchanged s 8

end Sys2Proof.Machine
end

section
/-! PROOFS. System instructions (44_system.md R240-R245): HALT where it halts and where it stops the machine, the outcome of a
raise, the decoding of STOP. -/

namespace Sys2Proof.Machine

/-! ## HALT (44_system.md R241) -/

theorem enterHalt_halts {s : State} (h : s.ime = true ∨ s.pending = 0) :
    enterHalt s = done 4 { s with halted := true } := by
  have hno : ¬ (s.ime = false ∧ s.pending ≠ 0) := by
    rintro ⟨hime, hpend⟩
    exact h.elim (ne_true_of_eq_false hime) hpend
  exact if_neg hno

theorem enterHalt_raises {s : State} (hime : s.ime = false) (hpend : s.pending ≠ 0) :
    enterHalt s = (raise (.haltBugUnmodelled s.regs.pc) s).finish := if_pos ⟨hime, hpend⟩

/-- Settles O53: NOP, DI and EI have one case each, HALT has the one that does not stop the machine. -/
theorem systemInstructions : Obligations.SystemInstructions := by
  unfold Obligations.SystemInstructions
  exact ⟨rfl, rfl, rfl, rfl, fun s => ⟨rfl, rfl, rfl, enterHalt_halts⟩⟩

/-! ## What stops the machine (44_system.md R241, R242, R245) -/

/-- An instruction that only raises stops with the faulted state, which differs in `fault` alone (60_exceptions.md R303). -/
theorem raise_finish (info : FaultInfo) (s : State) :
    (raise info s).finish = .fault (.raised info { s with fault := some info }) := rfl

/-- STOP takes the byte after it, where there is one (log 15). -/
theorem decode_stop (rest : List Byte) : decode (0x10 :: rest) = .ok (.stop, rest.drop 1) := rfl

/-- Settles O54: each of these forms is one raise, on a condition for HALT alone. -/
theorem stopsRaiseTheirFault : Obligations.StopsRaiseTheirFault := by
  unfold Obligations.StopsRaiseTheirFault
  refine ⟨fun x => decode_stop [x], fun s => ⟨raise_finish _ s, fun i op hi => ?undefined, fun hime hpend => ?halt⟩⟩
  case undefined =>
    obtain ⟨hbytes, hexec⟩ : encode i = [op] ∧ exec i s = undefinedOp op s := by
      simp only [List.mem_cons, List.not_mem_nil, or_false, Prod.mk.injEq] at hi
      rcases hi with ⟨rfl, rfl⟩ | ⟨rfl, rfl⟩ | ⟨rfl, rfl⟩ | ⟨rfl, rfl⟩ | ⟨rfl, rfl⟩ | ⟨rfl, rfl⟩ | ⟨rfl, rfl⟩ |
        ⟨rfl, rfl⟩ | ⟨rfl, rfl⟩ | ⟨rfl, rfl⟩ | ⟨rfl, rfl⟩ <;> exact ⟨rfl, rfl⟩
    exact ⟨hbytes, hexec.trans (raise_finish _ s)⟩
  case halt => exact (enterHalt_raises hime hpend).trans (raise_finish _ s)

end Sys2Proof.Machine
end

section
/-! PROOFS. The extended table (45_cb_bitops.md R251-R272): the operation each member of a family runs and its bytes; how
each ends; the families assembled from the two. -/

namespace Sys2Proof.Machine

/-! ## The operation a member of a family runs -/

@[simp] theorem exec_ofRot_reg (o : RotOp) (r : Reg8) (s : State) : exec (.ofRot o (.reg r)) s = rotReg o r s := by
  cases o <;> cases r <;> rfl

@[simp] theorem exec_ofRot_atHL (o : RotOp) (s : State) : exec (.ofRot o .atHL) s = rotAtHL o s := by cases o <;> rfl

@[simp] theorem exec_ofBit_reg (b : Fin 8) (r : Reg8) (s : State) : exec (.ofBit b (.reg r)) s = bitReg b r s := by
  fin_cases b <;> cases r <;> rfl

@[simp] theorem exec_ofBit_atHL (b : Fin 8) (s : State) : exec (.ofBit b .atHL) s = bitAtHL b s := by
  fin_cases b <;> rfl

@[simp] theorem exec_ofRes_reg (b : Fin 8) (r : Reg8) (s : State) : exec (.ofRes b (.reg r)) s = resReg b r s := by
  fin_cases b <;> cases r <;> rfl

@[simp] theorem exec_ofRes_atHL (b : Fin 8) (s : State) : exec (.ofRes b .atHL) s = resAtHL b s := by
  fin_cases b <;> rfl

@[simp] theorem exec_ofSet_reg (b : Fin 8) (r : Reg8) (s : State) : exec (.ofSet b (.reg r)) s = setReg b r s := by
  fin_cases b <;> cases r <;> rfl

@[simp] theorem exec_ofSet_atHL (b : Fin 8) (s : State) : exec (.ofSet b .atHL) s = setAtHL b s := by
  fin_cases b <;> rfl

/-! ## Its bytes (30_encoding.md R102, R108) -/

theorem encode_ofRot_reg (o : RotOp) (r : Reg8) :
    encode (.ofRot o (.reg r)) = [0xCB, opByte (8 * rotField o + regField r)] := by cases o <;> cases r <;> rfl

theorem encode_ofRot_atHL (o : RotOp) : encode (.ofRot o .atHL) = [0xCB, opByte (8 * rotField o + 6)] := by
  cases o <;> rfl

theorem encode_ofBit_reg (b : Fin 8) (r : Reg8) :
    encode (.ofBit b (.reg r)) = [0xCB, opByte (64 + 8 * b.val + regField r)] := by fin_cases b <;> cases r <;> rfl

theorem encode_ofBit_atHL (b : Fin 8) : encode (.ofBit b .atHL) = [0xCB, opByte (70 + 8 * b.val)] := by
  fin_cases b <;> rfl

theorem encode_ofRes_reg (b : Fin 8) (r : Reg8) :
    encode (.ofRes b (.reg r)) = [0xCB, opByte (128 + 8 * b.val + regField r)] := by fin_cases b <;> cases r <;> rfl

theorem encode_ofRes_atHL (b : Fin 8) : encode (.ofRes b .atHL) = [0xCB, opByte (128 + 8 * b.val + 6)] := by
  fin_cases b <;> rfl

theorem encode_ofSet_reg (b : Fin 8) (r : Reg8) :
    encode (.ofSet b (.reg r)) = [0xCB, opByte (192 + 8 * b.val + regField r)] := by fin_cases b <;> cases r <;> rfl

theorem encode_ofSet_atHL (b : Fin 8) : encode (.ofSet b .atHL) = [0xCB, opByte (192 + 8 * b.val + 6)] := by
  fin_cases b <;> rfl

/-! ## Rotates, shifts and SWAP (R251-R266) -/

theorem rotResult_eq_ofNat (o : RotOp) (v : Byte) (c : Bool) :
    (rotResult o v c).1 = BitVec.ofNat 8 (rotValue o v.toNat c.toNat) := by
  rw [← rotResult_value, BitVec.ofNat_toNat, BitVec.setWidth_eq]

theorem rotF_rotResult (o : RotOp) (v : Byte) (c : Bool) :
    rotF (rotResult o v c) = packF (decide (rotValue o v.toNat c.toNat = 0)) false false (rotOut o v.toNat) := by
  rw [rotF, byte_beq_eq_decide, rotResult_value, rotResult_out]
  rfl

/-- A rotate, shift or swap with the flags it packs. -/
def rotWithFlags (o : RotOp) (v : Byte) (c : Bool) : Byte × Byte := ((rotResult o v c).1, rotF (rotResult o v c))

theorem rotAtHL_eq (o : RotOp) (s : State) : rotAtHL o s = modifyAtHL (rotWithFlags o) 16 s := rfl

theorem rotWithFlags_eq (o : RotOp) (v : Byte) (c : Bool) :
    rotWithFlags o v c = (BitVec.ofNat 8 (rotValue o v.toNat c.toNat),
      packF (decide (rotValue o v.toNat c.toNat = 0)) false false (rotOut o v.toNat)) :=
  Prod.ext (rotResult_eq_ofNat o v c) (rotF_rotResult o v c)

/-- Settles O56: the register form writes the register and F, the (HL) form modifies the byte at HL. -/
theorem extendedRotatesAndShifts : Obligations.ExtendedRotatesAndShifts := by
  unfold Obligations.ExtendedRotatesAndShifts
  refine ⟨fun o r s => ⟨encode_ofRot_reg o r, ?register⟩, encode_ofRot_atHL, fun o s hr => ?atHL⟩
  case register =>
    rw [exec_ofRot_reg]
    exact done_setReg8_writeF s r (rotResult_value o (s.reg8 r) s.flagC) (rotF_rotResult o (s.reg8 r) s.flagC) 8
  case atHL =>
    intro v w hw
    rw [exec_ofRot_atHL, rotAtHL_eq]
    exact modifyAtHL_next 16 hr (rotWithFlags_eq o (s.readValue s.hl) s.flagC) hw

/-! ## BIT (R267, R268) -/

theorem bit_complement_eq_decide (v : Byte) (k : Nat) : (!v.getLsbD k) = decide (v.toNat / 2 ^ k % 2 = 0) := by
  have hbit : v.getLsbD k = decide (v.toNat / 2 ^ k % 2 = 1) := Nat.testBit_eq_decide_div_mod_eq
  rw [hbit, ← decide_not, decide_eq_decide]
  omega

/-- An instruction that tests a bit of `v`, `u` being `s` after the operand's read. -/
theorem done_testBit {s u : State} (same : u.regs = s.regs) (b : Fin 8) (v : Byte) (n : Nat) :
    ∃ t, done n (testBit b v u) = .next t ∧
      FlagsAre t (decide (v.toNat / 2 ^ b.val % 2 = 0)) false true s.flagC ∧ KeepsReg8 [] s t ∧ KeepsSpPc s t ∧
      t.cost = n ∧ OnlyRegs u t := by
  rw [← flagC_of_regs same, ← bit_complement_eq_decide]
  obtain ⟨t, hnext, hflags, hothers, ⟨hsp, hpc⟩, hcost, honly⟩ :=
    done_writeF u (f := packF (!v.getLsbD b.val) false true u.flagC) rfl n
  refine ⟨t, hnext, hflags, fun q hq => (hothers q hq).trans (reg8_of_regs same q), ⟨?sp, ?pc⟩, hcost, honly⟩
  case sp => rw [hsp, same]
  case pc => rw [hpc, same]

/-- Settles O57: both forms write F alone, the (HL) form after its read. -/
theorem bitTestsWriteZeroFlag : Obligations.BitTestsWriteZeroFlag := by
  unfold Obligations.BitTestsWriteZeroFlag
  refine ⟨fun b r s => ⟨encode_ofBit_reg b r, ?register⟩, encode_ofBit_atHL, fun b s hr => ?atHL⟩
  case register =>
    rw [exec_ofBit_reg]
    exact done_testBit rfl b (s.reg8 r) 8
  case atHL =>
    rw [exec_ofBit_atHL, bitAtHL, read8_andThen_finish hr 12 (testBit b)]
    exact done_testBit (drawn_regs s s.hl) b (s.readValue s.hl) 12

/-! ## RES and SET (R269-R272) -/

/-- The mask of both operations has one bit. -/
theorem one_shiftLeft_getLsbD (b : Fin 8) (k : Nat) : ((1 : Byte) <<< b.val).getLsbD k = decide (k = b.val) := by
  have hmask : (1 : Byte) <<< b.val = BitVec.twoPow 8 b.val := rfl
  rw [hmask, BitVec.getLsbD_twoPow]
  simp [eq_comm]

/-- What RES (`x` false) and SET (`x` true) make of a byte. -/
def makeBit (b : Fin 8) : Bool → Byte → Byte
  | false => clearBit b
  | true => raiseBit b

theorem bitMade_makeBit (b : Fin 8) (x : Bool) (v : Byte) : BitMade b x v (makeBit b x v) := by
  intro k hk
  cases x
  case false =>
    show (v &&& ~~~((1 : Byte) <<< b.val)).getLsbD k = _
    rw [BitVec.getLsbD_and, BitVec.getLsbD_not, one_shiftLeft_getLsbD]
    by_cases h : k = b.val <;> simp [h, hk]
  case true =>
    show (v ||| (1 : Byte) <<< b.val).getLsbD k = _
    rw [BitVec.getLsbD_or, one_shiftLeft_getLsbD]
    by_cases h : k = b.val <;> simp [h]

/-- The statement's bits determine the byte. -/
theorem BitMade.eq_makeBit {b : Fin 8} {x : Bool} {v w : Byte} (h : BitMade b x v w) : w = makeBit b x v :=
  BitVec.eq_of_getLsbD_eq fun k hk => (h k hk).trans (bitMade_makeBit b x v k hk).symm

/-- Read the byte at HL and write back what `g` makes of it: the shape of the (HL) forms of RES and SET, which write no
flag. -/
def replaceAtHL (g : Byte → Byte) (n : Nat) (s : State) : Outcome :=
  ((read8 s.hl s).andThen fun v u => (write8 u.hl (g v) u).andThen fun _ w => .ok n w).finish

theorem resAtHL_eq (b : Fin 8) (s : State) : resAtHL b s = replaceAtHL (clearBit b) 16 s := rfl

theorem setAtHL_eq (b : Fin 8) (s : State) : setAtHL b s = replaceAtHL (raiseBit b) 16 s := rfl

theorem replaceAtHL_next {s : State} {g : Byte → Byte} (n : Nat) (hr : s.readable s.hl)
    (hw : s.writable s.hl (g (s.readValue s.hl))) :
    ∃ t, replaceAtHL g n s = .next t ∧ Stored (s.drawn s.hl) s.hl (g (s.readValue s.hl)) t ∧ t.regs = s.regs ∧
      t.cost = n := by
  have hdrawn : (s.drawn s.hl).regs = s.regs := drawn_regs s s.hl
  obtain ⟨t, hnext, hstored, hregs, hcost⟩ :=
    write8_andThen_finish ((writable_congr (drawn_romSize s s.hl) s.hl (g (s.readValue s.hl))).2 hw) n
  refine ⟨t, ?exec, hstored, hregs.trans hdrawn, hcost⟩
  case exec =>
    rw [replaceAtHL, read8_ok s.hl s hr, ← hnext]
    simp only [Res.andThen, hl_of_regs hdrawn]

/-! ### RES or SET, as `x` says -/

theorem exec_ofResOrSet_reg (b : Fin 8) (x : Bool) (r : Reg8) (s : State) :
    exec (if x then .ofSet b (.reg r) else .ofRes b (.reg r)) s = done 8 (s.setReg8 r (makeBit b x (s.reg8 r))) := by
  cases x
  · exact exec_ofRes_reg b r s
  · exact exec_ofSet_reg b r s

theorem exec_ofResOrSet_atHL (b : Fin 8) (x : Bool) (s : State) :
    exec (if x then .ofSet b .atHL else .ofRes b .atHL) s = replaceAtHL (makeBit b x) 16 s := by
  cases x
  · exact (exec_ofRes_atHL b s).trans (resAtHL_eq b s)
  · exact (exec_ofSet_atHL b s).trans (setAtHL_eq b s)

theorem encode_ofResOrSet_reg (b : Fin 8) (x : Bool) (r : Reg8) :
    encode (if x then .ofSet b (.reg r) else .ofRes b (.reg r)) =
      [0xCB, opByte ((if x then 192 else 128) + 8 * b.val + regField r)] := by
  cases x
  · exact encode_ofRes_reg b r
  · exact encode_ofSet_reg b r

theorem encode_ofResOrSet_atHL (b : Fin 8) (x : Bool) :
    encode (if x then .ofSet b .atHL else .ofRes b .atHL) =
      [0xCB, opByte ((if x then 192 else 128) + 8 * b.val + 6)] := by
  cases x
  · exact encode_ofRes_atHL b
  · exact encode_ofSet_atHL b

/-- Settles O58: the operand is replaced by `makeBit` of it, the only byte with the bits the statement asks for. -/
theorem bitResetsAndSets : Obligations.BitResetsAndSets := by
  unfold Obligations.BitResetsAndSets
  refine fun b s x => ⟨encode_ofResOrSet_atHL b x, fun r => ⟨encode_ofResOrSet_reg b x r, ?register⟩,
    fun hr w hmade hw => ?atHL⟩
  case register =>
    obtain ⟨t, hnext, hvalue, hframe⟩ := done_setReg8 (s := s) rfl r (makeBit b x (s.reg8 r)) 8
    exact ⟨t, (exec_ofResOrSet_reg b x r s).trans hnext, hvalue ▸ bitMade_makeBit b x (s.reg8 r), hframe⟩
  case atHL =>
    obtain rfl := hmade.eq_makeBit
    obtain ⟨t, hnext, hreplaced⟩ := replaceAtHL_next (g := makeBit b x) 16 hr hw
    exact ⟨t, (exec_ofResOrSet_atHL b x s).trans hnext, hreplaced⟩

end Sys2Proof.Machine
end

section
/-! PROOFS. The interrupt step (60_exceptions.md R310-R314): which source it services. The end of an iteration (R330, R316,
R320): what the cost of the instruction and the cost of a service reach. -/

namespace Sys2Proof.Machine

/-! ## The source that is serviced -/

/-- Below bit 5 the mask of the five sources hides nothing (log 23). -/
theorem pending_getLsbD (s : State) {k : Nat} (hk : k < 5) : s.pending.getLsbD k = (s.ie &&& s.ifl).getLsbD k := by
  have mask : (0x1F : Byte).getLsbD k = true := by interval_cases k <;> rfl
  rw [State.pending, BitVec.getLsbD_and, mask, Bool.and_true]

/-- A mask with a set bit is not empty. -/
theorem ne_zero_of_getLsbD {m : Byte} {k : Nat} (set : m.getLsbD k = true) : m ≠ 0 := by
  rintro rfl
  exact Bool.false_ne_true (BitVec.getLsbD_zero.symm.trans set)

/-- `lowestSource` tests the bits in ascending order and ends at the first that is set. -/
theorem lowestSource_eq {m : Byte} {k : Nat} (hk : k < 5) (set : m.getLsbD k = true)
    (clear : ∀ j, j < k → m.getLsbD j = false) : lowestSource m = k := by
  unfold lowestSource
  interval_cases k <;> simp (disch := decide) only [clear, set, Bool.false_eq_true, if_false, if_true]

/-- Settles O12: the source of the statement is the one `lowestSource` finds in the pending mask; the rest is the rule of
the service, `irqStep_services`. -/
theorem interruptStepServicesLowestSource : Obligations.InterruptStepServicesLowestSource := by
  unfold Obligations.InterruptStepServicesLowestSource
  refine ⟨fun s k hk hime set clear hw => ?services, fun s idle => irqStep_idle s idle⟩
  case services =>
    have hset : s.pending.getLsbD k = true := (pending_getLsbD s hk).trans set
    have hlowest : lowestSource s.pending = k :=
      lowestSource_eq hk hset fun j hj => (pending_getLsbD s (hj.trans hk)).trans (clear j hj)
    obtain ⟨u, hstored, hirq⟩ := irqStep_services s hime (ne_zero_of_getLsbD hset) hw
    rw [hlowest] at hirq
    exact ⟨_, u, hirq, hstored, rfl⟩

/-! ## The end of an iteration -/

/-- The interrupt step and its cost decide how an iteration that raises nothing ends. -/
theorem finishIteration_of_irqStep {c n : Nat} {s t : State} (h : irqStep (ppuStep c s).wake = .ok n t) :
    finishIteration c s = .next { t with totalCycles := t.totalCycles + c + n } := by
  rw [finishIteration, h]

/-- The interrupt step leaves the total to the scheduler. -/
theorem irqStep_totalCycles {n : Nat} {s t : State} (h : irqStep s = .ok n t) : t.totalCycles = s.totalCycles := by
  have hkeeps := irqStep_keeps s
  rw [h] at hkeeps
  exact hkeeps.1.totalCycles

/-- Settles O5: `u` is the state the interrupt step starts from, and neither the PPU step before it nor the interrupt step
itself touches the total, to which the two costs are then added. -/
theorem iterationEndsWithPpuAndInterrupts : Obligations.IterationEndsWithPpuAndInterrupts := by
  unfold Obligations.IterationEndsWithPpuAndInterrupts
  intro c s p u
  have hwake : p.wake = u := wake_eq p
  refine ⟨fun idle => ?idle, fun hime hpending hw => ?services⟩
  case idle => exact finishIteration_of_irqStep ((congrArg irqStep hwake).trans (irqStep_idle u idle))
  case services =>
    obtain ⟨_, -, hirq⟩ := irqStep_services u hime hpending hw
    have htotal := (irqStep_totalCycles hirq).trans (ppuStep_totalCycles c s)
    refine ⟨_, hirq, htotal, ?_⟩
    rw [finishIteration_of_irqStep ((congrArg irqStep hwake).trans hirq), htotal]

end Sys2Proof.Machine
end

section
/-! PROOFS. Decoding (30_encoding.md): one rule for each number of operand bytes, the bytes of what is decoded, and the
round trip in both directions. -/

namespace Sys2Proof.Machine

/-! ## One rule for each number of operand bytes -/

theorem operandBytes_le (op : Byte) : operandBytes op ≤ 2 := by
  unfold operandBytes
  split
  · decide
  · split <;> decide

theorem operandBytes_cases (op : Byte) : operandBytes op = 0 ∨ operandBytes op = 1 ∨ operandBytes op = 2 := by
  have := operandBytes_le op
  omega

theorem decode_of_no_operand {op : Byte} (hstop : op ≠ 0x10) (hn : operandBytes op = 0) (rest : List Byte) :
    decode (op :: rest) = .ok (decodeBytes op 0 0, rest) := by
  simp only [decode, if_neg hstop, hn]

theorem decode_of_byte_operand {op : Byte} (hn : operandBytes op = 1) (b1 : Byte) (rest : List Byte) :
    decode (op :: b1 :: rest) = .ok (decodeBytes op b1 0, rest) := by
  have hstop : op ≠ 0x10 := by rintro rfl; cases hn
  simp only [decode, if_neg hstop, hn]

theorem decode_of_word_operand {op : Byte} (hn : operandBytes op = 2) (b1 b2 : Byte) (rest : List Byte) :
    decode (op :: b1 :: b2 :: rest) = .ok (decodeBytes op b1 b2, rest) := by
  have hstop : op ≠ 0x10 := by rintro rfl; cases hn
  simp only [decode, if_neg hstop, hn]

/-- A word operand is put together from its two bytes. -/
theorem decode_of_word {op : Byte} (hn : operandBytes op = 2) (v : Word) (rest : List Byte) :
    decode (op :: lowByte v :: highByte v :: rest) = .ok (decodePrimary op (lowByte v) v, rest) := by
  have hcb : op ≠ 0xCB := by rintro rfl; cases hn
  rw [decode_of_word_operand hn, decodeBytes, if_neg hcb, wordOf_high_low]

/-- What a list of bytes decodes to is STOP, or the reading of an opcode with the operand bytes it takes. -/
theorem decode_eq_ok {bytes rest : List Byte} {i : Instr} (h : decode bytes = .ok (i, rest)) :
    i = .stop ∨ ∃ op b1 b2, op ≠ 0x10 ∧ i = decodeBytes op b1 b2 ∧
      bytes = op :: [b1, b2].take (operandBytes op) ++ rest := by
  cases bytes with
  | nil => cases h
  | cons op more =>
    by_cases hstop : op = 0x10
    · subst hstop
      cases h
      exact .inl rfl
    · right
      rcases operandBytes_cases op with hn | hn | hn
      · rw [decode_of_no_operand hstop hn] at h
        cases h
        exact ⟨op, 0, 0, hstop, rfl, by rw [hn]; rfl⟩
      · cases more with
        | nil => simp only [decode, if_neg hstop, hn] at h; cases h
        | cons b1 more =>
          rw [decode_of_byte_operand hn] at h
          cases h
          exact ⟨op, b1, 0, hstop, rfl, by rw [hn]; rfl⟩
      · match more, h with
        | [], h | [_], h => simp only [decode, if_neg hstop, hn] at h; cases h
        | b1 :: b2 :: more, h =>
          rw [decode_of_word_operand hn] at h
          cases h
          exact ⟨op, b1, b2, hstop, rfl, by rw [hn]; rfl⟩

/-! ## The bytes of what is decoded -/

/-- The encoder writes back the opcode and the operand bytes the decoder looked at; STOP's second byte is always written
(log 15). The values of an opcode are finitely many, its operand bytes stand as they are. -/
theorem encode_decodePrimary (op : Byte) (v : Word) :
    encode (decodePrimary op (lowByte v) v) =
      op :: if op = 0x10 then [0x00] else [lowByte v, highByte v].take (operandBytes op) := by
  obtain ⟨n, hn, rfl⟩ : ∃ n, n < 256 ∧ op = opByte n := ⟨op.toNat, op.isLt, by simp [opByte]⟩
  interval_cases n <;> rfl

theorem encode_decodeExtended (x : Byte) : encode (decodeExtended x) = [0xCB, x] := by
  revert x; decide

theorem wellFormed_decodeExtended (x : Byte) : wellFormed (decodeExtended x) = true := by
  revert x; decide

theorem encode_decodeBytes {op : Byte} (hstop : op ≠ 0x10) (b1 b2 : Byte) :
    encode (decodeBytes op b1 b2) = op :: [b1, b2].take (operandBytes op) := by
  unfold decodeBytes
  split
  next hcb =>
    subst hcb
    exact encode_decodeExtended b1
  next =>
    have h := encode_decodePrimary op (wordOf b2 b1)
    rwa [lowByte_wordOf, highByte_wordOf, if_neg hstop] at h

/-- The `prefix_CB` row alone is ill-formed, and its encoding begins with 0xCB, after which the extended table is read. -/
theorem wellFormed_decodeBytes {op : Byte} (hstop : op ≠ 0x10) (b1 b2 : Byte) :
    wellFormed (decodeBytes op b1 b2) = true := by
  by_cases hcb : op = 0xCB
  · rw [decodeBytes, if_pos hcb]
    exact wellFormed_decodeExtended b1
  · have hbytes := encode_decodeBytes hstop b1 b2
    cases hi : decodeBytes op b1 b2
    case prefix_CB x =>
      rw [hi] at hbytes
      exact absurd (List.cons.inj hbytes).1.symm hcb
    all_goals rfl

/-! ## The round trip -/

/-- Settles O3: each list of bytes is evaluated. -/
theorem decodeReadsSpecWords : Obligations.DecodeReadsSpecWords := by
  unfold Obligations.DecodeReadsSpecWords
  exact ⟨rfl, rfl, rfl, rfl, rfl, rfl, rfl, rfl, rfl, rfl, rfl, rfl, rfl, rfl, rfl, rfl, rfl, rfl, rfl⟩

/-- Settles O1: the decoder computes on the opcode of each form; a word operand is put together from its two bytes. -/
theorem decodeOfEncodeIsInstruction : Obligations.DecodeOfEncodeIsInstruction := by
  unfold Obligations.DecodeOfEncodeIsInstruction
  intro i rest hwf
  cases i
  case prefix_CB x => contradiction
  case ld_BC_d16 | ld_atA16_SP | ld_DE_d16 | ld_HL_d16 | ld_SP_d16 | ld_atA16_A | ld_A_atA16 | jp_NZ_a16 | jp_a16 |
      call_NZ_a16 | jp_Z_a16 | call_Z_a16 | call_a16 | jp_NC_a16 | call_NC_a16 | jp_C_a16 | call_C_a16 =>
    exact decode_of_word rfl _ rest
  all_goals rfl

/-- Settles O2: the number of operand bytes is 0, 1 or 2, so three bytes suffice; what is decoded is STOP or `decodeBytes`
of the bytes read, which the encoder writes back. -/
theorem encodeOfDecodeIsBytes : Obligations.EncodeOfDecodeIsBytes := by
  unfold Obligations.EncodeOfDecodeIsBytes
  refine ⟨fun b0 b1 b2 more => ?total, fun bytes rest i h => ?inverse⟩
  case total =>
    by_cases hstop : b0 = 0x10
    · exact ⟨_, _, hstop ▸ decode_stop (b1 :: b2 :: more)⟩
    · rcases operandBytes_cases b0 with hn | hn | hn
      · exact ⟨_, _, decode_of_no_operand hstop hn _⟩
      · exact ⟨_, _, decode_of_byte_operand hn b1 _⟩
      · exact ⟨_, _, decode_of_word_operand hn b1 b2 more⟩
  case inverse =>
    rcases decode_eq_ok h with rfl | ⟨op, b1, b2, hstop, rfl, rfl⟩
    · exact ⟨rfl, fun hne => absurd rfl hne⟩
    · exact ⟨wellFormed_decodeBytes hstop b1 b2, fun _ => by rw [encode_decodeBytes hstop]⟩

end Sys2Proof.Machine
end

section
/-! PROOFS. The fetch (30_encoding.md R113; 60_exceptions.md R330): the bytes of an instruction are read one after another;
the step that executes it, and the step that faults at one of its bytes. -/

namespace Sys2Proof.Machine

/-! ## One byte after another -/

theorem setPC_drawn (s : State) (p a : Word) : (s.setPC p).drawn a = (s.drawn a).setPC p := by
  simp only [State.drawn, apply_ite (fun u : State => u.setPC p)]
  rfl

/-- Reading `k + 1` bytes is reading `k` and then the next. -/
theorem readBytes_succ (k : Nat) (a : Word) (s : State) :
    State.readBytes (k + 1) a s =
      ((State.readBytes k a s).1 ++ [(State.readBytes k a s).2.readValue (a + BitVec.ofNat 16 k)],
        (State.readBytes k a s).2.drawn (a + BitVec.ofNat 16 k)) := by
  induction k generalizing a s with
  | zero => simp [State.readBytes]
  | succ k ih =>
    have hnext : a + 1 + BitVec.ofNat 16 k = a + BitVec.ofNat 16 (k + 1) := by
      rw [BitVec.add_assoc, BitVec.add_comm 1, BitVec.ofNat_add]
      rfl
    rw [State.readBytes, ih, hnext]
    rfl

theorem readBytes_romSize (k : Nat) (a : Word) (s : State) : (State.readBytes k a s).2.romSize = s.romSize := by
  induction k generalizing a s with
  | zero => rfl
  | succ k ih => exact (ih (a + 1) (s.drawn a)).trans (drawn_romSize s a)

/-- The `k`-th byte from PC on, where the bytes before it have been read. -/
def State.byteAtPC (s : State) (k : Nat) : Byte :=
  (State.readBytes k s.regs.pc s).2.readValue (s.regs.pc + BitVec.ofNat 16 k)

theorem bytesAtPC_succ (s : State) (k : Nat) :
    (State.readBytes (k + 1) s.regs.pc s).1 = (State.readBytes k s.regs.pc s).1 ++ [s.byteAtPC k] := by
  rw [readBytes_succ]
  rfl

/-- The state when `k` bytes from PC on have been fetched. -/
def State.fetched (s : State) (k : Nat) : State :=
  (State.readBytes k s.regs.pc s).2.setPC (s.regs.pc + BitVec.ofNat 16 k)

theorem fetched_zero (s : State) : s.fetched 0 = s := by
  rw [State.fetched, BitVec.add_zero]
  rfl

theorem byteAtPC_zero (s : State) : s.byteAtPC 0 = s.readValue s.regs.pc := by
  rw [State.byteAtPC, BitVec.add_zero]
  rfl

theorem fetched_readable (s : State) (k : Nat) (a : Word) : (s.fetched k).readable a ↔ s.readable a :=
  readable_congr (readBytes_romSize k s.regs.pc s) a

theorem imm8_fetched {s : State} {k : Nat} (h : s.readable (s.regs.pc + BitVec.ofNat 16 k)) :
    imm8 (s.fetched k) = .ok (s.byteAtPC k) (s.fetched (k + 1)) := by
  rw [imm8_ok (s.fetched k) ((fetched_readable s k _).2 h)]
  simp only [State.fetched, State.byteAtPC, setPC_pc, setPC_drawn, readBytes_succ, BitVec.add_assoc, BitVec.ofNat_add]
  rfl

theorem imm8_fetched_raises {s : State} {k : Nat} (h : ¬ s.readable (s.regs.pc + BitVec.ofNat 16 k)) :
    imm8 (s.fetched k) = .raised (.romReadBeyondImage (s.regs.pc + BitVec.ofNat 16 k))
      { s.fetched k with fault := some (.romReadBeyondImage (s.regs.pc + BitVec.ofNat 16 k)) } :=
  imm8_raises (s.fetched k) (mt (fetched_readable s k _).1 h)

/-- The first byte, which is fetched where PC stands. -/
theorem imm8_first {s : State} (h : s.readable (s.regs.pc + BitVec.ofNat 16 0)) :
    imm8 s = .ok (s.byteAtPC 0) (s.fetched 1) := by
  rw [← imm8_fetched h, fetched_zero]

theorem imm8_first_raises {s : State} (h : ¬ s.readable (s.regs.pc + BitVec.ofNat 16 0)) :
    imm8 s = .raised (.romReadBeyondImage (s.regs.pc + BitVec.ofNat 16 0))
      { s.fetched 0 with fault := some (.romReadBeyondImage (s.regs.pc + BitVec.ofNat 16 0)) } := by
  rw [← imm8_fetched_raises h, fetched_zero]

/-! ## The fetch -/

/-- STOP is one byte to the fetch (log 15). -/
theorem decode_singleton {op : Byte} (hn : operandBytes op = 0) : decode [op] = .ok (decodeBytes op 0 0, []) := by
  by_cases hstop : op = 0x10
  · subst hstop
    rfl
  · exact decode_of_no_operand hstop hn []

/-- Where the bytes of the instruction at PC are readable, the fetch gives what they decode to, with PC past them. -/
theorem fetch_ok {s : State} {i : Instr} {n : Nat} (hn : n = 1 + operandBytes (s.byteAtPC 0))
    (hr : ∀ k, k < n → s.readable (s.regs.pc + BitVec.ofNat 16 k))
    (hd : decode (State.readBytes n s.regs.pc s).1 = .ok (i, [])) : fetch s = .ok i (s.fetched n) := by
  unfold fetch
  rw [imm8_first (hr 0 (by omega))]
  rcases operandBytes_cases (s.byteAtPC 0) with hop | hop | hop <;> rw [hop] at hn <;> subst hn <;>
    simp only [Res.andThen, hop]
  case inl =>
    have hbytes : (State.readBytes 1 s.regs.pc s).1 = [s.byteAtPC 0] := bytesAtPC_succ s 0
    cases (hbytes ▸ hd).symm.trans (decode_singleton hop)
    rfl
  case inr.inl =>
    have hbytes : (State.readBytes 2 s.regs.pc s).1 = [s.byteAtPC 0, s.byteAtPC 1] := by
      rw [bytesAtPC_succ, bytesAtPC_succ]
      rfl
    cases (hbytes ▸ hd).symm.trans (decode_of_byte_operand hop _ [])
    rw [imm8_fetched (hr 1 (by omega))]
  case inr.inr =>
    have hbytes : (State.readBytes 3 s.regs.pc s).1 = [s.byteAtPC 0, s.byteAtPC 1, s.byteAtPC 2] := by
      rw [bytesAtPC_succ, bytesAtPC_succ, bytesAtPC_succ]
      rfl
    cases (hbytes ▸ hd).symm.trans (decode_of_word_operand hop _ _ [])
    rw [imm8_fetched (hr 1 (by omega))]
    simp only
    rw [imm8_fetched (hr 2 (by omega))]

/-- Where a byte of the instruction is not readable and those before it are, the fetch raises there. -/
theorem fetch_raises {s : State} {k : Nat} (hk : k < 1 + operandBytes (s.byteAtPC 0))
    (hr : ∀ j, j < k → s.readable (s.regs.pc + BitVec.ofNat 16 j))
    (hbad : ¬ s.readable (s.regs.pc + BitVec.ofNat 16 k)) :
    fetch s = .raised (.romReadBeyondImage (s.regs.pc + BitVec.ofNat 16 k))
      { s.fetched k with fault := some (.romReadBeyondImage (s.regs.pc + BitVec.ofNat 16 k)) } := by
  have hop := operandBytes_le (s.byteAtPC 0)
  unfold fetch
  obtain rfl | rfl | rfl : k = 0 ∨ k = 1 ∨ k = 2 := by omega
  · rw [imm8_first_raises hbad]
    rfl
  · rw [imm8_first (hr 0 (by omega))]
    simp only [Res.andThen]
    split
    case h_1 hnone => omega
    all_goals
      rw [imm8_fetched_raises hbad]
  · rw [imm8_first (hr 0 (by omega))]
    simp only [Res.andThen]
    split
    case h_1 hnone | h_2 hone => omega
    rw [imm8_fetched (hr 1 (by omega))]
    simp only
    rw [imm8_fetched_raises hbad]

/-! ## The step of a running machine -/

/-- A machine that is neither faulted nor halted fetches, executes and ends the iteration. -/
theorem step_running {s : State} (hl : s.params.legal = true) (hf : s.fault = none) (hh : s.halted = false) :
    step s = match fetch s with
      | .raised info s => .fault (.raised info s)
      | .ok i s =>
        match exec i s with
        | .next t => finishIteration t.cost t
        | .fault r => .fault r
        | .refused r => .refused r := by
  rw [step, if_pos hl, hf, hh]
  rfl

/-- Settles O4: the fetch gives the instruction, and the step goes on from there. -/
theorem stepRunsDecodedInstruction : Obligations.StepRunsDecodedInstruction := by
  unfold Obligations.StepRunsDecodedInstruction
  intro s i hl hf hh n hr hd
  have hn : n = 1 + operandBytes (s.byteAtPC 0) := by rw [byteAtPC_zero]
  rw [step_running hl hf hh, fetch_ok hn hr hd]
  rfl

/-- Settles O6: the fetch raises at the first byte that is not readable; a faulted machine answers its fault. -/
theorem faultsAtFetchAndStays : Obligations.FaultsAtFetchAndStays := by
  unfold Obligations.FaultsAtFetchAndStays
  refine ⟨?fetch, fun s info hl hf => ?stays⟩
  case fetch =>
    intro s k hl hf hh hk hr a hbad
    rw [← byteAtPC_zero] at hk
    rw [step_running hl hf hh, fetch_raises hk hr hbad]
    rfl
  case stays => rw [step, if_pos hl, hf]

end Sys2Proof.Machine
end

section
/-! PROOFS. What no instruction touches (60_exceptions.md R303, R333; 10_state.md R29-R31, R34-R37): a predicate on the end of
an operation, its rule for each bus operation and each shared operation, and the table of the opcode map. -/

namespace Sys2Proof.Machine

/-! ## Operations that leave the machine status alone -/

/-- `u` is reached from `s` by bus accesses and register writes, and IME, `halted` and `fault` are as before. -/
structure Quiet (s u : State) : Prop where
  keeps : Keeps s u
  fault : u.fault = s.fault
  ime : u.ime = s.ime
  halted : u.halted = s.halted

theorem Quiet.refl (s : State) : Quiet s s := ⟨Keeps.refl s, rfl, rfl, rfl⟩

theorem Quiet.trans {s t u : State} (h : Quiet s t) (k : Quiet t u) : Quiet s u :=
  ⟨h.keeps.trans k.keeps, k.fault.trans h.fault, k.ime.trans h.ime, k.halted.trans h.halted⟩

/-- A result that ends does so quietly; one that raises has set `fault` to what it raised. -/
def Res.Quiet {α : Type} (s : State) : Res α → Prop
  | .ok _ u => Machine.Quiet s u
  | .raised info u => Machine.Keeps s u ∧ u.fault = some info

theorem Quiet.ok {α : Type} {s u : State} (h : Quiet s u) (v : α) : (Res.ok v u).Quiet s := h

theorem Res.Quiet.andThen {α β : Type} {s : State} {r : Res α} {k : α → State → Res β} (h : r.Quiet s)
    (hk : ∀ v u, (k v u).Quiet u) : (r.andThen k).Quiet s := by
  cases r with
  | raised info u => exact h
  | ok v u =>
    have hnext := hk v u
    show (k v u).Quiet s
    cases hr : k v u with
    | ok w t =>
      rw [hr] at hnext
      exact Machine.Quiet.trans h hnext
    | raised info t =>
      rw [hr] at hnext
      exact ⟨h.keeps.trans hnext.1, hnext.2⟩

/-- A result that keeps the frame is quiet where its end leaves IME and `halted`. -/
theorem Res.Keeps.quiet {α : Type} {s : State} {r : Res α} (h : r.Keeps s)
    (hstatus : ∀ v u, r = .ok v u → u.ime = s.ime ∧ u.halted = s.halted) : r.Quiet s := by
  cases r with
  | raised info u => exact h
  | ok v u => exact ⟨h.1, h.2, (hstatus v u rfl).1, (hstatus v u rfl).2⟩

/-! ## The bus and the stack -/

theorem read8_quiet (a : Word) (s : State) : (read8 a s).Quiet s := by
  refine (read8_keeps a s).quiet fun v u hok => ?_
  by_cases h : s.readable a
  · cases (read8_ok a s h).symm.trans hok
    exact ⟨drawn_ime s a, drawn_halted s a⟩
  · cases (read8_raises a s h).symm.trans hok

theorem write8_quiet (a : Word) (v : Byte) (s : State) : (write8 a v s).Quiet s := by
  refine (write8_keeps a v s).quiet fun _ u hok => ?_
  by_cases h : s.writable a v
  · obtain ⟨t, ht, hstored, -⟩ := write8_ok a v s h
    cases ht.symm.trans hok
    rw [hstored.rest]
    exact ⟨rfl, rfl⟩
  · obtain ⟨_, _, _, _, _, hraises⟩ := write8_raises a v s h
    cases hraises.symm.trans hok

theorem Quiet.of_regs (s : State) (r : Regs) (hf : s.regs.f &&& 0x0F = 0 → r.f &&& 0x0F = 0) :
    Quiet s { s with regs := r } := ⟨Keeps.of_regs s r hf, rfl, rfl, rfl⟩

theorem read16_quiet (a : Word) (s : State) : (read16 a s).Quiet s :=
  (read8_quiet a s).andThen fun lo u => (read8_quiet (a + 1) u).andThen fun hi t => (Quiet.refl t).ok (wordOf hi lo)

theorem write16_quiet (a v : Word) (s : State) : (write16 a v s).Quiet s :=
  (write8_quiet a (lowByte v) s).andThen fun _ u => write8_quiet (a + 1) (highByte v) u

theorem push16_quiet (v : Word) (s : State) : (push16 v s).Quiet s :=
  ((Quiet.of_regs s { s.regs with sp := s.regs.sp - 2 } id).ok ()).andThen fun _ u => write16_quiet (s.regs.sp - 2) v u

theorem pop16_quiet (s : State) : (pop16 s).Quiet s :=
  (read16_quiet s.regs.sp s).andThen fun v u => (Quiet.of_regs u { u.regs with sp := u.regs.sp + 2 } id).ok v

/-! ## Register writes -/

theorem setReg8_quiet (s : State) (r : Reg8) (v : Byte) : Quiet s (s.setReg8 r v) :=
  ⟨setReg8_keeps s r v, setReg8_fault s r v, setReg8_ime s r v, setReg8_halted s r v⟩

theorem setPair_quiet (s : State) (p : Pair) (v : Word) : Quiet s (s.setPair p v) :=
  ⟨setPair_keeps s p v, setPair_fault s p v, setPair_ime s p v, setPair_halted s p v⟩

theorem setHL_quiet (s : State) (v : Word) : Quiet s (s.setHL v) := ⟨setHL_keeps s v, rfl, rfl, rfl⟩

theorem setPC_quiet (s : State) (v : Word) : Quiet s (s.setPC v) := ⟨setPC_keeps s v, rfl, rfl, rfl⟩

theorem writeF_quiet (s : State) (v : Byte) : Quiet s (s.writeF v) := ⟨writeF_keeps s v, rfl, rfl, rfl⟩

theorem setStackPair_quiet (s : State) (q : StackPair) (v : Word) : Quiet s (s.setStackPair q v) :=
  ⟨setStackPair_keeps s q v, setStackPair_fault s q v, setStackPair_ime s q v, setStackPair_halted s q v⟩

theorem applyAlu_quiet (o : AluOp) (v : Byte) (s : State) : Quiet s (applyAlu o v s) := by
  cases o
  case cp => exact writeF_quiet s _
  all_goals exact (setReg8_quiet s .a _).trans (writeF_quiet _ _)

/-! ## Outcomes -/

/-- An instruction that completes does so quietly; one that faults has set `fault` to what it raised; none is refused. -/
def Outcome.Quiet (s : State) : Outcome → Prop
  | .next t => Machine.Quiet s t
  | .fault (.raised info t) => Keeps s t ∧ t.fault = some info
  | .refused _ => False

/-- The machine status and the cost are outside the frame. -/
theorem Keeps.of_status (s : State) (ime halted : Bool) (n : Nat) :
    Keeps s { s with ime := ime, halted := halted, cost := n } := by
  constructor
  case flags | mem | palettes => exact id
  all_goals rfl

theorem Keeps.withCost {s t : State} (h : Keeps s t) (n : Nat) : Keeps s { t with cost := n } :=
  h.trans (.of_status t t.ime t.halted n)

theorem Quiet.withCost {s t : State} (h : Quiet s t) (n : Nat) : Quiet s { t with cost := n } :=
  ⟨h.keeps.withCost n, h.fault, h.ime, h.halted⟩

theorem done_quiet {s t : State} (h : Quiet s t) (n : Nat) : Outcome.Quiet s (done n t) := h.withCost n

theorem Res.Quiet.finish {s : State} {r : Res Nat} (h : r.Quiet s) : Outcome.Quiet s r.finish := by
  cases r with
  | ok n u => exact Machine.Quiet.withCost h n
  | raised info u => exact h

theorem raise_finish_quiet (info : FaultInfo) (s : State) : Outcome.Quiet s (raise info s).finish :=
  Res.Quiet.finish (raise_keeps info s : (raise (α := Nat) info s).Keeps s)

end Sys2Proof.Machine
end

section
/-! PROOFS. No instruction but DI, EI, RETI and HALT writes the machine status: the shapes of the shared operations, and the
table of the opcode map, entry by entry (30_encoding.md R108, R119). -/

namespace Sys2Proof.Machine

/-! ## The shapes of the shared operations -/

section
variable {s : State} {n : Nat}

theorem quiet_unchanged : Outcome.Quiet s (done n s) := done_quiet (Quiet.refl s) n

theorem quiet_setReg8 {dst : Reg8} {v : Byte} : Outcome.Quiet s (done n (s.setReg8 dst v)) :=
  done_quiet (setReg8_quiet s dst v) n

theorem quiet_setReg8_writeF {dst : Reg8} {v f : Byte} : Outcome.Quiet s (done n ((s.setReg8 dst v).writeF f)) :=
  done_quiet ((setReg8_quiet s dst v).trans (writeF_quiet _ f)) n

theorem quiet_writeF {f : Byte} : Outcome.Quiet s (done n (s.writeF f)) := done_quiet (writeF_quiet s f) n

theorem quiet_alu {o : AluOp} {v : Byte} : Outcome.Quiet s (done n (applyAlu o v s)) :=
  done_quiet (applyAlu_quiet o v s) n

theorem quiet_setPair {p : Pair} {v : Word} : Outcome.Quiet s (done n (s.setPair p v)) :=
  done_quiet (setPair_quiet s p v) n

theorem quiet_setHL_writeF {v : Word} {f : Byte} : Outcome.Quiet s (done n ((s.setHL v).writeF f)) :=
  done_quiet ((setHL_quiet s v).trans (writeF_quiet _ f)) n

theorem quiet_setPair_writeF {p : Pair} {v : Word} {f : Byte} :
    Outcome.Quiet s (done n ((s.setPair p v).writeF f)) :=
  done_quiet ((setPair_quiet s p v).trans (writeF_quiet _ f)) n

theorem quiet_jump {a : Word} : Outcome.Quiet s (jump n a s) := done_quiet (setPC_quiet s a) n

theorem quiet_jumpIf {cc : Cond} {a : Word} : Outcome.Quiet s (jumpIf cc a s) := by
  rw [jumpIf_eq]
  exact quiet_jump

theorem quiet_jumpRelativeIf {cc : Cond} {e : Byte} : Outcome.Quiet s (jumpRelativeIf cc e s) := by
  rw [jumpRelativeIf_eq]
  exact quiet_jump

theorem quiet_call {a : Word} : Outcome.Quiet s (call n a s) :=
  ((push16_quiet s.regs.pc s).andThen fun _ u => (setPC_quiet u a).ok n).finish

theorem quiet_callIf {cc : Cond} {a : Word} : Outcome.Quiet s (callIf cc a s) := by
  unfold callIf
  split
  · exact quiet_call
  · exact quiet_unchanged

theorem quiet_ret : Outcome.Quiet s (ret n s) :=
  ((pop16_quiet s).andThen fun v u => (setPC_quiet u v).ok n).finish

theorem quiet_retIf {cc : Cond} : Outcome.Quiet s (retIf cc s) := by
  unfold retIf
  split
  · exact quiet_ret
  · exact quiet_unchanged

theorem quiet_push {q : StackPair} : Outcome.Quiet s (pushPair q s) :=
  ((push16_quiet (s.stackPair q) s).andThen fun _ u => (Quiet.refl u).ok 16).finish

theorem quiet_pop {q : StackPair} : Outcome.Quiet s (popPair q s) :=
  ((pop16_quiet s).andThen fun v u => (setStackPair_quiet u q v).ok 12).finish

theorem quiet_storeSP {a : Word} : Outcome.Quiet s (ldAtA16SP a s) :=
  ((write16_quiet a s.regs.sp s).andThen fun _ u => (Quiet.refl u).ok 20).finish

theorem quiet_loadA {a : Word} : Outcome.Quiet s (loadA n a s) :=
  ((read8_quiet a s).andThen fun v u => (setReg8_quiet u .a v).ok n).finish

theorem quiet_loadAStepHL {step : Word} : Outcome.Quiet s (loadAStepHL step s) :=
  ((read8_quiet s.hl s).andThen fun v u => ((setReg8_quiet u .a v).trans (setHL_quiet _ _)).ok 8).finish

theorem quiet_ldRegAtHL {dst : Reg8} : Outcome.Quiet s (ldRegAtHL dst s) :=
  ((read8_quiet s.hl s).andThen fun v u => (setReg8_quiet u dst v).ok 8).finish

theorem quiet_aluAtHL {o : AluOp} : Outcome.Quiet s (aluAtHL o s) :=
  ((read8_quiet s.hl s).andThen fun v u => (applyAlu_quiet o v u).ok 8).finish

theorem quiet_bitAtHL {b : Fin 8} : Outcome.Quiet s (bitAtHL b s) :=
  ((read8_quiet s.hl s).andThen fun _ u => (writeF_quiet u _).ok 12).finish

theorem quiet_store {a : Word} {v : Byte} : Outcome.Quiet s ((write8 a v s).andThen fun _ u => .ok n u).finish :=
  ((write8_quiet a v s).andThen fun _ u => (Quiet.refl u).ok n).finish

theorem quiet_storeAStepHL {step : Word} : Outcome.Quiet s (storeAStepHL step s) :=
  ((write8_quiet s.hl s.regs.a s).andThen fun _ u => (setHL_quiet u _).ok 8).finish

theorem quiet_modifyAtHL {f : Byte → Bool → Byte × Byte} : Outcome.Quiet s (modifyAtHL f n s) :=
  ((read8_quiet s.hl s).andThen fun _ u => (write8_quiet u.hl _ u).andThen fun _ w => (writeF_quiet w _).ok n).finish

theorem quiet_replaceAtHL {g : Byte → Byte} : Outcome.Quiet s (replaceAtHL g n s) :=
  ((read8_quiet s.hl s).andThen fun _ u => (write8_quiet u.hl _ u).andThen fun _ w => (Quiet.refl w).ok n).finish

theorem quiet_raise {info : FaultInfo} : Outcome.Quiet s (raise info s).finish :=
  Res.Quiet.finish (raise_keeps (α := Nat) info s)

end

/-! ## The opcode map -/

/-- The instructions that write IME or `halted` (44_system.md R241, R243, R244; 43_control.md R230). -/
def statusWriters : List Instr := [.di, .ei, .reti, .halt]

theorem primaryRow0_quiet (k : Nat) (n : Byte) (v : Word) (s : State) :
    Outcome.Quiet s (exec (primaryRow0 k n v) s) := by
  unfold primaryRow0
  split
  exacts [quiet_unchanged, quiet_setPair, quiet_store, quiet_setPair, quiet_setReg8_writeF, quiet_setReg8_writeF,
    quiet_setReg8, quiet_setReg8_writeF, quiet_storeSP, quiet_setHL_writeF, quiet_loadA, quiet_setPair,
    quiet_setReg8_writeF, quiet_setReg8_writeF, quiet_setReg8, quiet_setReg8_writeF]

theorem primaryRow1_quiet (k : Nat) (n : Byte) (v : Word) (s : State) :
    Outcome.Quiet s (exec (primaryRow1 k n v) s) := by
  unfold primaryRow1
  split
  exacts [quiet_raise, quiet_setPair, quiet_store, quiet_setPair, quiet_setReg8_writeF, quiet_setReg8_writeF,
    quiet_setReg8, quiet_setReg8_writeF, quiet_jump, quiet_setHL_writeF, quiet_loadA, quiet_setPair,
    quiet_setReg8_writeF, quiet_setReg8_writeF, quiet_setReg8, quiet_setReg8_writeF]

theorem primaryRow2_quiet (k : Nat) (n : Byte) (v : Word) (s : State) :
    Outcome.Quiet s (exec (primaryRow2 k n v) s) := by
  unfold primaryRow2
  split
  exacts [quiet_jumpRelativeIf, quiet_setPair (p := .hl), quiet_storeAStepHL, quiet_setPair (p := .hl),
    quiet_setReg8_writeF, quiet_setReg8_writeF, quiet_setReg8, quiet_setReg8_writeF, quiet_jumpRelativeIf,
    quiet_setHL_writeF, quiet_loadAStepHL, quiet_setPair (p := .hl), quiet_setReg8_writeF, quiet_setReg8_writeF,
    quiet_setReg8, quiet_setReg8_writeF]

theorem primaryRow3_quiet (k : Nat) (n : Byte) (v : Word) (s : State) :
    Outcome.Quiet s (exec (primaryRow3 k n v) s) := by
  unfold primaryRow3
  split
  exacts [quiet_jumpRelativeIf, quiet_setPair, quiet_storeAStepHL, quiet_setPair, quiet_modifyAtHL (f := inc8),
    quiet_modifyAtHL (f := dec8), quiet_store, quiet_writeF, quiet_jumpRelativeIf, quiet_setHL_writeF,
    quiet_loadAStepHL, quiet_setPair, quiet_setReg8_writeF, quiet_setReg8_writeF, quiet_setReg8, quiet_writeF]

theorem primaryRowC_quiet (k : Nat) (n : Byte) (v : Word) (s : State) (hk : k ≠ 11) :
    Outcome.Quiet s (exec (primaryRowC k n v) s) := by
  revert hk
  unfold primaryRowC
  split <;> intro hk
  exacts [quiet_retIf, quiet_pop, quiet_jumpIf, quiet_jump, quiet_callIf, quiet_push, quiet_alu, quiet_call,
    quiet_retIf, quiet_ret, quiet_jumpIf, absurd rfl hk, quiet_callIf, quiet_call, quiet_alu, quiet_call]

theorem primaryRowD_quiet (k : Nat) (n : Byte) (v : Word) (s : State) (h : primaryRowD k n v ∉ statusWriters) :
    Outcome.Quiet s (exec (primaryRowD k n v) s) := by
  revert h
  unfold primaryRowD
  split <;> intro h
  exacts [quiet_retIf, quiet_pop, quiet_jumpIf, quiet_raise, quiet_callIf, quiet_push, quiet_alu, quiet_call,
    quiet_retIf, absurd (by decide) h, quiet_jumpIf, quiet_raise, quiet_callIf, quiet_raise, quiet_alu, quiet_call]

theorem primaryRowE_quiet (k : Nat) (n : Byte) (v : Word) (s : State) :
    Outcome.Quiet s (exec (primaryRowE k n v) s) := by
  unfold primaryRowE
  split
  exacts [quiet_store, quiet_pop, quiet_store, quiet_raise, quiet_raise, quiet_push, quiet_alu, quiet_call,
    quiet_setPair_writeF, quiet_jump, quiet_store, quiet_raise, quiet_raise, quiet_raise, quiet_alu, quiet_call]

theorem primaryRowF_quiet (k : Nat) (n : Byte) (v : Word) (s : State) (h : primaryRowF k n v ∉ statusWriters) :
    Outcome.Quiet s (exec (primaryRowF k n v) s) := by
  revert h
  unfold primaryRowF
  split <;> intro h
  exacts [quiet_loadA, quiet_pop, quiet_loadA, absurd (by decide) h, quiet_raise, quiet_push, quiet_alu, quiet_call,
    quiet_setHL_writeF, quiet_setPair, quiet_loadA, absurd (by decide) h, quiet_raise, quiet_raise, quiet_alu,
    quiet_call]

theorem ofLd_quiet (d r : Operand8) (s : State) (h : Instr.ofLd d r ∉ statusWriters) :
    Outcome.Quiet s (exec (.ofLd d r) s) := by
  cases d <;> cases r
  case reg.reg dst src => rw [exec_ofLd_reg_reg]; exact quiet_setReg8
  case reg.atHL dst => rw [exec_ofLd_reg_atHL]; exact quiet_ldRegAtHL
  case atHL.reg src => rw [exec_ofLd_atHL_reg]; exact quiet_store
  case atHL.atHL => exact absurd (by decide) h

theorem ofAlu_quiet (o : AluOp) (r : Operand8) (s : State) : Outcome.Quiet s (exec (.ofAlu o r) s) := by
  cases r
  case reg r => rw [exec_ofAlu_reg]; exact quiet_alu
  case atHL => rw [exec_ofAlu_atHL]; exact quiet_aluAtHL

end Sys2Proof.Machine
end

section
/-! PROOFS. The extended table (44_system.md R246; 45_cb_bitops.md R250): the family each extended byte selects; the
`prefix_CB` row runs as the extended entry it names. -/

namespace Sys2Proof.Machine

/-! ## The family of an extended byte -/

/-- The group of an extended byte is its bits 7-6. -/
theorem extendedGroup_cases (x : Byte) :
    x.toNat / 64 = 0 ∨ x.toNat / 64 = 1 ∨ x.toNat / 64 = 2 ∨ x.toNat / 64 = 3 := by
  have := x.isLt
  omega

theorem decodeExtended_cases (x : Byte) : ∃ (o : RotOp) (b : Fin 8),
    (x.toNat / 64 = 0 ∧ decodeExtended x = .ofRot o (operand8OfField (x.toNat % 8))) ∨
    (x.toNat / 64 = 1 ∧ decodeExtended x = .ofBit b (operand8OfField (x.toNat % 8))) ∨
    (x.toNat / 64 = 2 ∧ decodeExtended x = .ofRes b (operand8OfField (x.toNat % 8))) ∨
    (x.toNat / 64 = 3 ∧ decodeExtended x = .ofSet b (operand8OfField (x.toNat % 8))) := by
  refine ⟨rotOfField (Fin.ofNat 8 (x.toNat / 8)).val, Fin.ofNat 8 (x.toNat / 8), ?_⟩
  unfold decodeExtended
  rcases extendedGroup_cases x with h | h | h | h <;> rw [h]
  · exact .inl ⟨rfl, rfl⟩
  · exact .inr (.inl ⟨rfl, rfl⟩)
  · exact .inr (.inr (.inl ⟨rfl, rfl⟩))
  · exact .inr (.inr (.inr ⟨rfl, rfl⟩))

theorem operand8OfField_of_ne {k : Nat} (h : k ≠ 6) : ∃ r, operand8OfField k = .reg r := by
  unfold operand8OfField
  split
  case h_7 => exact absurd rfl h
  all_goals exact ⟨_, rfl⟩

/-- The `prefix_CB` row selects by the fields of its byte the operation that the extended entry runs. -/
theorem exec_prefix_CB (x : Byte) (s : State) : exec (.prefix_CB x) s = exec (decodeExtended x) s := by
  show executeCb x s = _
  unfold executeCb decodeExtended
  cases operand8OfField (x.toNat % 8) <;> rcases extendedGroup_cases x with h | h | h | h <;> simp [h]

/-! ## How an extended entry completes -/

/-- An extended entry of a register completes at the cost of 8. -/
theorem exec_decodeExtended_reg {x : Byte} (hx : x.toNat % 8 ≠ 6) (s : State) :
    ∃ t, exec (decodeExtended x) s = .next t ∧ t.cost = 8 := by
  obtain ⟨r, hr⟩ := operand8OfField_of_ne hx
  obtain ⟨o, b, h⟩ := decodeExtended_cases x
  rw [hr] at h
  rcases h with ⟨-, hi⟩ | ⟨-, hi⟩ | ⟨-, hi⟩ | ⟨-, hi⟩ <;> rw [hi]
  · exact ⟨_, exec_ofRot_reg o r s, rfl⟩
  · exact ⟨_, exec_ofBit_reg b r s, rfl⟩
  · exact ⟨_, exec_ofRes_reg b r s, rfl⟩
  · exact ⟨_, exec_ofSet_reg b r s, rfl⟩

/-- An extended entry of (HL) completes where the byte is readable and any byte can be written back: BIT, which writes
nothing, at the cost of 12, the others at 16. -/
theorem exec_decodeExtended_atHL {x : Byte} (hx : x.toNat % 8 = 6) {s : State} (hr : s.readable s.hl)
    (hw : ∀ v, s.writable s.hl v) :
    ∃ t, exec (decodeExtended x) s = .next t ∧ t.cost = if x.toNat / 64 = 1 then 12 else 16 := by
  obtain ⟨o, b, h⟩ := decodeExtended_cases x
  rw [hx] at h
  rcases h with ⟨hg, hi⟩ | ⟨hg, hi⟩ | ⟨hg, hi⟩ | ⟨hg, hi⟩ <;> rw [hi, hg]
  · obtain ⟨t, hnext, -, -, -, hcost⟩ := modifyAtHL_next 16 hr (rotWithFlags_eq o _ _) (hw _)
    exact ⟨t, (exec_ofRot_atHL o s).trans hnext, hcost⟩
  · obtain ⟨t, hnext, -, -, -, hcost, -⟩ := done_testBit (drawn_regs s s.hl) b (s.readValue s.hl) 12
    exact ⟨t, (exec_ofBit_atHL b s).trans ((read8_andThen_finish hr 12 (testBit b)).trans hnext), hcost⟩
  · obtain ⟨t, hnext, -, -, hcost⟩ := replaceAtHL_next (g := clearBit b) 16 hr (hw _)
    exact ⟨t, (exec_ofRes_atHL b s).trans hnext, hcost⟩
  · obtain ⟨t, hnext, -, -, hcost⟩ := replaceAtHL_next (g := raiseBit b) 16 hr (hw _)
    exact ⟨t, (exec_ofSet_atHL b s).trans hnext, hcost⟩

/-- Settles O55: the row runs as its extended entry, of which the operand field says whether it is of a register. -/
theorem prefixRunsExtendedEntry : Obligations.PrefixRunsExtendedEntry := by
  unfold Obligations.PrefixRunsExtendedEntry
  intro x s
  rw [exec_prefix_CB]
  exact ⟨rfl, fun hx => exec_decodeExtended_reg hx s, fun hx hr hw => exec_decodeExtended_atHL hx hr hw⟩

end Sys2Proof.Machine
end

section
/-! PROOFS. Every instruction is quiet but the four that write IME or `halted`, and those keep the rest of the frame
(60_exceptions.md R303, R333; 10_state.md R29-R31). -/

namespace Sys2Proof.Machine

/-! ## Every instruction -/

theorem decodeExtended_quiet (x : Byte) (s : State) : Outcome.Quiet s (exec (decodeExtended x) s) := by
  obtain ⟨o, b, h⟩ := decodeExtended_cases x
  cases hr : operand8OfField (x.toNat % 8) <;> rw [hr] at h <;>
    rcases h with ⟨-, hi⟩ | ⟨-, hi⟩ | ⟨-, hi⟩ | ⟨-, hi⟩ <;> rw [hi]
  case reg.inl => rw [exec_ofRot_reg]; exact quiet_setReg8_writeF
  case reg.inr.inl => rw [exec_ofBit_reg]; exact quiet_writeF
  case reg.inr.inr.inl => rw [exec_ofRes_reg]; exact quiet_setReg8
  case reg.inr.inr.inr => rw [exec_ofSet_reg]; exact quiet_setReg8
  case atHL.inl => rw [exec_ofRot_atHL, rotAtHL_eq]; exact quiet_modifyAtHL
  case atHL.inr.inl => rw [exec_ofBit_atHL]; exact quiet_bitAtHL
  case atHL.inr.inr.inl => rw [exec_ofRes_atHL, resAtHL_eq]; exact quiet_replaceAtHL
  case atHL.inr.inr.inr => rw [exec_ofSet_atHL, setAtHL_eq]; exact quiet_replaceAtHL

theorem decodePrimary_quiet {op : Byte} (hcb : op ≠ 0xCB) (n : Byte) (v : Word) (s : State)
    (h : decodePrimary op n v ∉ statusWriters) : Outcome.Quiet s (exec (decodePrimary op n v) s) := by
  revert h
  unfold decodePrimary
  simp only
  split
  · exact fun _ => primaryRow0_quiet _ n v s
  · exact fun _ => primaryRow1_quiet _ n v s
  · exact fun _ => primaryRow2_quiet _ n v s
  · exact fun _ => primaryRow3_quiet _ n v s
  · next hrow =>
    refine fun _ => primaryRowC_quiet _ n v s fun hcolumn => hcb ?_
    exact BitVec.eq_of_toNat_eq (show op.toNat = 0xCB by omega)
  · exact primaryRowD_quiet _ n v s
  · exact fun _ => primaryRowE_quiet _ n v s
  · exact primaryRowF_quiet _ n v s
  · split
    · exact ofLd_quiet _ _ s
    · exact fun _ => ofAlu_quiet _ _ s

/-- A complete instruction is what some bytes decode to. -/
theorem exists_decodeBytes {i : Instr} (h : wellFormed i = true) : ∃ op b1 b2, i = decodeBytes op b1 b2 := by
  have hd : decode (encode i ++ []) = .ok (i, []) := decodeOfEncodeIsInstruction i [] h
  rcases decode_eq_ok hd with rfl | ⟨op, b1, b2, -, hi, -⟩
  · exact ⟨0x10, 0, 0, rfl⟩
  · exact ⟨op, b1, b2, hi⟩

/-- No instruction but DI, EI, RETI and HALT writes the machine status, and none touches what is outside the frame. -/
theorem exec_quiet (i : Instr) (s : State) (h : i ∉ statusWriters) : Outcome.Quiet s (exec i s) := by
  cases hwf : wellFormed i with
  | true =>
    obtain ⟨op, b1, b2, rfl⟩ := exists_decodeBytes hwf
    by_cases hcb : op = 0xCB
    · rw [decodeBytes, if_pos hcb]
      exact decodeExtended_quiet b1 s
    · rw [decodeBytes, if_neg hcb] at h ⊢
      exact decodePrimary_quiet hcb b1 _ s h
  | false =>
    cases i
    case prefix_CB x => rw [exec_prefix_CB]; exact decodeExtended_quiet x s
    all_goals cases hwf

end Sys2Proof.Machine
end

section
/-! PROOFS. The frame of the instructions and of the step (60_exceptions.md R300, R303, R333; 20_memory.md R79): what no
instruction touches, who writes IME and `halted`, where a step is refused, what a step that faults leaves. -/

namespace Sys2Proof.Machine

/-! ## What no instruction touches -/

/-- An instruction keeps the frame whether it completes or faults; `fault` changes by a fault alone; none is refused. -/
def Outcome.Keeps (s : State) : Outcome → Prop
  | .next t => Machine.Keeps s t ∧ t.fault = s.fault
  | .fault (.raised info t) => Machine.Keeps s t ∧ t.fault = some info
  | .refused _ => False

theorem Outcome.Quiet.keeps {s : State} {o : Outcome} (h : Outcome.Quiet s o) : Outcome.Keeps s o := by
  match o, h with
  | .next _, h => exact ⟨Machine.Quiet.keeps h, Machine.Quiet.fault h⟩
  | .fault (.raised _ _), h => exact h

theorem Res.Keeps.finish {s : State} {r : Res Nat} (h : r.Keeps s) : Outcome.Keeps s r.finish := by
  cases r with
  | ok n u => exact ⟨h.1.withCost n, h.2⟩
  | raised info u => exact h

theorem exec_keeps (i : Instr) (s : State) : Outcome.Keeps s (exec i s) := by
  by_cases h : i ∈ statusWriters
  · have hwriter : i = .di ∨ i = .ei ∨ i = .reti ∨ i = .halt := by simpa [statusWriters] using h
    rcases hwriter with rfl | rfl | rfl | rfl
    · exact ⟨Keeps.of_status s false s.halted 4, rfl⟩
    · exact ⟨Keeps.of_status s true s.halted 4, rfl⟩
    · exact ((returnFromInterrupt_keeps s).andThen fun _ u _ => .of_ok 16 (Keeps.refl u) rfl).finish
    · show Outcome.Keeps s (enterHalt s)
      unfold enterHalt
      split
      · exact (raise_keeps _ s).finish
      · exact ⟨Keeps.of_status s s.ime true 4, rfl⟩
  · exact (exec_quiet i s h).keeps

theorem Keeps.leavesTiming {s t : State} (h : Keeps s t) : LeavesTiming s t where
  mode := h.mode
  ly := h.ly
  dots := h.dots
  fb := h.fb
  presented := h.presented
  totalCycles := h.totalCycles
  rom := h.rom
  romSize := h.romSize
  cartType := h.cartType
  params := h.params

/-- Settles O8: the three ends of an instruction are the three cases of `Outcome.Keeps`. -/
theorem instructionsLeaveTiming : Obligations.InstructionsLeaveTiming := by
  unfold Obligations.InstructionsLeaveTiming
  intro i s
  have hkeeps := exec_keeps i s
  refine ⟨fun t h => ?next, fun info t h => ?fault, fun r h => ?refused⟩ <;> rw [h] at hkeeps
  case next => exact ⟨hkeeps.1.leavesTiming, hkeeps.2⟩
  case fault => exact ⟨hkeeps.1.leavesTiming, hkeeps.2⟩
  case refused => exact hkeeps

/-! ## Who writes the machine status -/

theorem setIME_next {v : Bool} {s t : State} (h : setIME v s = .next t) : t.halted = s.halted := by
  cases h
  rfl

theorem enterHalt_next {s t : State} (h : enterHalt s = .next t) : t.ime = s.ime := by
  unfold enterHalt at h
  split at h <;> cases h
  rfl

theorem retInterrupt_next {s t : State} (h : retInterrupt s = .next t) : t.halted = s.halted := by
  have hquiet := pop16_quiet s
  unfold retInterrupt returnFromInterrupt at h
  cases hpop : pop16 s with
  | raised info u => rw [hpop] at h; cases h
  | ok v u =>
    rw [hpop] at h hquiet
    cases h
    exact hquiet.halted

/-- Settles O9: every other instruction is quiet, and each of the four writes its own half of the status alone. -/
theorem onlyTheirInstructionsWriteImeAndHalted : Obligations.OnlyTheirInstructionsWriteImeAndHalted := by
  unfold Obligations.OnlyTheirInstructionsWriteImeAndHalted
  intro i s t h
  by_cases hmem : i ∈ statusWriters
  · have hwriter : i = .di ∨ i = .ei ∨ i = .reti ∨ i = .halt := by simpa [statusWriters] using hmem
    rcases hwriter with rfl | rfl | rfl | rfl
    · exact ⟨fun hdi => absurd rfl hdi, fun _ => setIME_next h⟩
    · exact ⟨fun _ hei => absurd rfl hei, fun _ => setIME_next h⟩
    · exact ⟨fun _ _ hreti => absurd rfl hreti, fun _ => retInterrupt_next h⟩
    · exact ⟨fun _ _ _ => enterHalt_next h, fun hhalt => absurd rfl hhalt⟩
  · have hquiet := exec_quiet i s hmem
    rw [h] at hquiet
    exact ⟨fun _ _ _ => hquiet.ime, fun _ => hquiet.halted⟩

/-! ## Refusals and faults of the step -/

theorem finishIteration_ne_refused (c : Nat) (s : State) (r : Refusal) : finishIteration c s ≠ .refused r := by
  rcases finishIteration_cases c s with ⟨_, _, -, h⟩ | ⟨_, _, -, h⟩ <;> rw [h] <;> exact nofun

theorem legal_iff (p : Params) : p.legal = true ↔
    (0xFF01 ≤ p.randomAddr.toNat ∧ p.randomAddr.toNat ≤ 0xFF7F) ∧
      p.randomAddr.toNat ∉ [0xFF0F, 0xFF40, 0xFF42, 0xFF43, 0xFF46, 0xFF47, 0xFF48, 0xFF49] := by
  rw [Params.legal, Bool.and_eq_true, decide_eq_true_iff, Bool.not_eq_true', List.contains_eq_mem, decide_eq_false_iff_not]

/-- Settles O7: of the ways a step can go the first alone is a refusal, for no instruction is refused. -/
theorem refusesOnlyIllegalRandomAddr : Obligations.RefusesOnlyIllegalRandomAddr := by
  unfold Obligations.RefusesOnlyIllegalRandomAddr
  refine fun s => ⟨fun hl r hstep => ?legal, fun hl => ?illegal, legal_iff s.params⟩
  case legal =>
    rcases step_cases s with ⟨hill, -⟩ | ⟨-, ⟨_, -, h⟩ | ⟨-, ⟨-, h⟩ | ⟨-, ⟨_, _, -, h⟩ | ⟨i, t, -, hexec⟩⟩⟩⟩
    · exact Bool.noConfusion (hill.symm.trans hl)
    · cases h.symm.trans hstep
    · exact finishIteration_ne_refused 4 s r (h.symm.trans hstep)
    · cases h.symm.trans hstep
    · rcases hexec with ⟨u, -, h⟩ | ⟨_, -, h⟩ | ⟨q, hq, -⟩
      · exact finishIteration_ne_refused u.cost u r (h.symm.trans hstep)
      · cases h.symm.trans hstep
      · exact (instructionsLeaveTiming i t).2.2 q hq
  case illegal => rw [step, if_neg (ne_true_of_eq_false hl)]

/-- An iteration whose interrupt step raises holds the fault, and the total stands. -/
theorem finishIteration_fault {c : Nat} {s t : State} {info : FaultInfo}
    (h : finishIteration c s = .fault (.raised info t)) : t.fault = some info ∧ t.totalCycles = s.totalCycles := by
  rcases finishIteration_cases c s with ⟨_, _, -, hend⟩ | ⟨info', t', hirq, hend⟩
  · cases hend.symm.trans h
  · cases hend.symm.trans h
    have hkeeps := irqStep_keeps (ppuStep c s).wake
    rw [hirq] at hkeeps
    refine ⟨hkeeps.2, ?_⟩
    calc t.totalCycles
      _ = (ppuStep c s).wake.totalCycles := hkeeps.1.totalCycles
      _ = (ppuStep c s).totalCycles := (wake_keeps (ppuStep c s)).totalCycles
      _ = s.totalCycles := ppuStep_totalCycles c s

/-- What a fetch ends in, or raises in, keeps the frame. -/
theorem fetch_ok_keeps {s t : State} {i : Instr} (h : fetch s = .ok i t) : Keeps s t ∧ t.fault = s.fault := by
  have hkeeps := fetch_keeps s
  rwa [h] at hkeeps

theorem fetch_raised_keeps {s t : State} {info : FaultInfo} (h : fetch s = .raised info t) :
    Keeps s t ∧ t.fault = some info := by
  have hkeeps := fetch_keeps s
  rwa [h] at hkeeps

theorem exec_next_keeps {i : Instr} {s t : State} (h : exec i s = .next t) : Keeps s t ∧ t.fault = s.fault := by
  have hkeeps := exec_keeps i s
  rwa [h] at hkeeps

theorem exec_fault_keeps {i : Instr} {s t : State} {info : FaultInfo} (h : exec i s = .fault (.raised info t)) :
    Keeps s t ∧ t.fault = some info := by
  have hkeeps := exec_keeps i s
  rwa [h] at hkeeps

/-- Settles O10: a step faults where the machine was faulted, in the fetch, in the instruction, or in the interrupt step;
each leaves the total. -/
theorem faultEndsIterationUncounted : Obligations.FaultEndsIterationUncounted := by
  unfold Obligations.FaultEndsIterationUncounted
  intro s t info hstep
  rcases step_cases s with ⟨-, h⟩ | ⟨-, ⟨_, hf, h⟩ | ⟨-, ⟨-, h⟩ | ⟨-, ⟨_, _, hfetch, h⟩ | ⟨i, m, hfetch, hexec⟩⟩⟩⟩
  · cases h.symm.trans hstep
  · cases h.symm.trans hstep
    exact ⟨hf, rfl⟩
  · exact finishIteration_fault (h.symm.trans hstep)
  · cases h.symm.trans hstep
    exact ⟨(fetch_raised_keeps hfetch).2, (fetch_raised_keeps hfetch).1.totalCycles⟩
  · have hm := (fetch_ok_keeps hfetch).1.totalCycles
    rcases hexec with ⟨u, hu, h⟩ | ⟨_, hu, h⟩ | ⟨_, -, h⟩
    · have hend := finishIteration_fault (h.symm.trans hstep)
      exact ⟨hend.1, hend.2.trans ((exec_next_keeps hu).1.totalCycles.trans hm)⟩
    · cases h.symm.trans hstep
      exact ⟨(exec_fault_keeps hu).2, (exec_fault_keeps hu).1.totalCycles.trans hm⟩
    · cases h.symm.trans hstep

end Sys2Proof.Machine
end

section
/-! PROOFS. PPU timing (60_exceptions.md R340-R347): a step that ends one mode, steps fed one after another, what every step
keeps of mode and line. -/

namespace Sys2Proof.Machine

/-! ## A transition -/

/-- No transition reads the dots. -/
theorem transition_setDots (s : State) (d : Nat) :
    State.transition { s with ppu := { s.ppu with dots := d } } =
      { s.transition with ppu := { s.transition.ppu with dots := d } } := by
  unfold State.transition State.enterVBlank
  cases s.ppu.mode
  case oamScan | pixelTransfer => rfl
  case hblank | vblank => simp only; split_ifs <;> rfl

/-- What a step does depends on the sum of the dots held and the dots fed. -/
theorem ppuStep_setDots {s : State} {c d e : Nat} (h : d + c = e) :
    ppuStep c { s with ppu := { s.ppu with dots := d } } = ppuStep 0 { s with ppu := { s.ppu with dots := e } } := by
  subst h
  rfl

/-- Dots that end the current mode and not the next make one transition, with the remainder carried. -/
theorem ppuStep_transition {s : State} {c d : Nat} (hd : d < 80) (h : s.ppu.dots + c = budget s.ppu.mode + d) :
    ppuStep c s = { s.transition with ppu := { s.transition.ppu with dots := d } } := by
  have hrest : s.ppu.dots + c - budget s.ppu.mode = d := by omega
  rw [ppuStep_pass c s (by omega), hrest, transition_setDots]
  exact ppuStep_below 0 _ (Nat.lt_of_lt_of_le hd (budget_ge _))

theorem transition_oamScan {s : State} (h : s.ppu.mode = .oamScan) :
    s.transition = { s with ppu := { s.ppu with mode := .pixelTransfer } } := by
  rw [State.transition, h]

theorem transition_pixelTransfer {s : State} (h : s.ppu.mode = .pixelTransfer) :
    s.transition = { s.renderLine s.ppu.ly with ppu := { (s.renderLine s.ppu.ly).ppu with mode := .hblank } } := by
  rw [State.transition, h]

theorem transition_hblank {s : State} (h : s.ppu.mode = .hblank) (hly : s.ppu.ly ≠ 143) :
    s.transition = { s with ppu := { s.ppu with ly := s.ppu.ly + 1, mode := .oamScan } } := by
  have hne : ¬ s.ppu.ly + 1 = 144 := by omega
  rw [State.transition, h]
  exact if_neg hne

theorem transition_hblank_last {s : State} (h : s.ppu.mode = .hblank) (hly : s.ppu.ly = 143) :
    s.transition = { s with
      ifl := if s.ie.getLsbD 0 then s.ifl ||| 0x01 else s.ifl
      ppu := { s.ppu with ly := 144, mode := .vblank, presented := s.ppu.fb :: s.ppu.presented } } := by
  rw [State.transition, h, hly]
  simp only [State.enterVBlank, if_true]
  split_ifs <;> rfl

theorem transition_vblank {s : State} (h : s.ppu.mode = .vblank) (hly : s.ppu.ly ≠ 153) :
    s.transition = { s with ppu := { s.ppu with ly := s.ppu.ly + 1 } } := by
  have hne : ¬ s.ppu.ly + 1 = 154 := by omega
  rw [State.transition, h]
  exact if_neg hne

theorem transition_vblank_last {s : State} (h : s.ppu.mode = .vblank) (hly : s.ppu.ly = 153) :
    s.transition = { s with ppu := { s.ppu with ly := 0, mode := .oamScan } } := by
  rw [State.transition, h, hly]
  rfl

/-- Settles O16: below the budget no transition is made, else one, that of the mode and the line. -/
theorem ppuTransitionsByMode : Obligations.PpuTransitionsByMode := by
  unfold Obligations.PpuTransitionsByMode
  refine ⟨fun s c h => ppuStep_below c s h, fun s c d hd => ⟨?oam, ?transfer, ?hblank, ?last, ?vblank, ?wrap⟩⟩
  case oam => exact fun h hsum => by rw [ppuStep_transition hd (by rw [h]; exact hsum), transition_oamScan h]
  case transfer => exact fun h hsum => by rw [ppuStep_transition hd (by rw [h]; exact hsum), transition_pixelTransfer h]
  case hblank => exact fun h hly hsum => by rw [ppuStep_transition hd (by rw [h]; exact hsum), transition_hblank h hly]
  case last =>
    exact fun h hly hsum => by rw [ppuStep_transition hd (by rw [h]; exact hsum), transition_hblank_last h hly]
  case vblank => exact fun h hly hsum => by rw [ppuStep_transition hd (by rw [h]; exact hsum), transition_vblank h hly]
  case wrap =>
    exact fun h hly hsum => by rw [ppuStep_transition hd (by rw [h]; exact hsum), transition_vblank_last h hly]

/-! ## Steps one after another -/

/-- Settles O18: below the budget the dots add up; above it the transition is made by the first step, and the rest is the
same statement with fewer dots. -/
theorem ppuStepSplits : Obligations.PpuStepSplits := by
  unfold Obligations.PpuStepSplits
  intro a b s
  induction hm : s.ppu.dots + a using Nat.strong_induction_on generalizing a b s with
  | h m ih =>
    have hb := budget_ge s.ppu.mode
    rcases Nat.lt_or_ge (s.ppu.dots + a) (budget s.ppu.mode) with hlt | hge
    · rw [ppuStep_below a s hlt, ppuStep_setDots (Nat.add_assoc s.ppu.dots a b)]
      rfl
    · obtain ⟨rest, hrest⟩ : ∃ rest, s.ppu.dots + a = budget s.ppu.mode + rest := Nat.exists_eq_add_of_le hge
      have hone : s.ppu.dots + a - budget s.ppu.mode = rest := by omega
      have hboth : s.ppu.dots + (a + b) - budget s.ppu.mode = rest + b := by omega
      rw [ppuStep_pass a s hge, ppuStep_pass (a + b) s (by omega), hone, hboth, transition_setDots s (rest + b),
        transition_setDots s rest, ← ih rest (by omega) 0 b _ rfl, Nat.zero_add,
        ppuStep_setDots (d := rest) rfl]

/-! ## What every step keeps -/

/-- After a step the dots are below the budget of the mode, whatever they were. -/
theorem ppuStep_dots_lt (c : Nat) (s : State) : (ppuStep c s).ppu.dots < budget (ppuStep c s).ppu.mode := by
  induction hm : s.ppu.dots + c using Nat.strong_induction_on generalizing c s with
  | h m ih =>
    have hb := budget_ge s.ppu.mode
    rcases Nat.lt_or_ge (s.ppu.dots + c) (budget s.ppu.mode) with hlt | hge
    · rw [ppuStep_below c s hlt]
      exact hlt
    · rw [ppuStep_pass c s hge]
      exact ih _ (by rw [transition_dots]; simp only; omega) 0 _ rfl

/-- The mode agrees with the line (60_exceptions.md R347). -/
def Ppu.ModeFitsLine (p : Ppu) : Prop := (p.ly ≤ 143 ↔ p.mode ≠ .vblank) ∧ p.ly ≤ 153

theorem transition_modeFitsLine {s : State} (h : s.ppu.ModeFitsLine) : s.transition.ppu.ModeFitsLine := by
  obtain ⟨hvisible, hline⟩ := h
  cases hm : s.ppu.mode <;> rw [hm] at hvisible
  case oamScan =>
    rw [transition_oamScan hm]
    exact ⟨iff_of_true (hvisible.2 nofun) nofun, hline⟩
  case pixelTransfer =>
    rw [transition_pixelTransfer hm]
    exact ⟨iff_of_true (hvisible.2 nofun) nofun, hline⟩
  case hblank =>
    have hly := hvisible.2 nofun
    by_cases hlast : s.ppu.ly = 143
    · rw [transition_hblank_last hm hlast]
      exact ⟨by simp, by simp⟩
    · rw [transition_hblank hm hlast]
      exact ⟨iff_of_true (by simp only; omega) nofun, by simp only; omega⟩
  case vblank =>
    have hly : ¬ s.ppu.ly ≤ 143 := fun h => hvisible.1 h rfl
    by_cases hlast : s.ppu.ly = 153
    · rw [transition_vblank_last hm hlast]
      exact ⟨by simp, by simp⟩
    · rw [transition_vblank hm hlast]
      exact ⟨iff_of_false (by simp only; omega) (fun h => h hm), by simp only; omega⟩

/-- Settles O19: every transition keeps mode and line together, and a step ends below the budget. -/
theorem ppuStepKeepsModeAndLine : Obligations.PpuStepKeepsModeAndLine := by
  unfold Obligations.PpuStepKeepsModeAndLine
  intro c s hvisible hline
  have h : (ppuStep c s).ppu.ModeFitsLine :=
    ppuStep_induction (fun u => u.ppu.ModeFitsLine) (fun _ _ hu => hu) (fun _ => transition_modeFitsLine) c s
      ⟨hvisible, hline⟩
  exact ⟨h.1, h.2, ppuStep_dots_lt c s⟩

end Sys2Proof.Machine
end

section
/-! PROOFS. PPU timing in dots of the frame (60_exceptions.md R340, R345, R347): a line of 456 dots, the position in the frame
and what one dot does to it, a frame of 70,224 dots, the first VBlank. -/

namespace Sys2Proof.Machine

/-! ## A line -/

theorem ppuStep_hblank {s : State} (hm : s.ppu.mode = .hblank) (hly : s.ppu.ly ≠ 143) (hd : s.ppu.dots = 0) :
    ppuStep 204 s = { s with ppu := { s.ppu with dots := 0, ly := s.ppu.ly + 1, mode := .oamScan } } :=
  (ppuTransitionsByMode.2 s 204 0 (by omega)).2.2.1 hm hly (by omega)

theorem ppuStep_oamScan {s : State} (hm : s.ppu.mode = .oamScan) (hd : s.ppu.dots = 0) :
    ppuStep 80 s = { s with ppu := { s.ppu with dots := 0, mode := .pixelTransfer } } :=
  (ppuTransitionsByMode.2 s 80 0 (by omega)).1 hm (by omega)

theorem ppuStep_pixelTransfer {s : State} (hm : s.ppu.mode = .pixelTransfer) (hd : s.ppu.dots = 0) :
    ppuStep 172 s = { s.renderLine s.ppu.ly with
      ppu := { (s.renderLine s.ppu.ly).ppu with dots := 0, mode := .hblank } } :=
  (ppuTransitionsByMode.2 s 172 0 (by omega)).2.1 hm (by omega)

/-- From HBlank of a line but the last visible one, 456 dots render the next line and end in its HBlank. -/
theorem ppuStep_line {s : State} (hm : s.ppu.mode = .hblank) (hly : s.ppu.ly ≠ 143) (hd : s.ppu.dots = 0) :
    ppuStep 456 s = { s.renderLine (s.ppu.ly + 1) with
      ppu := { (s.renderLine (s.ppu.ly + 1)).ppu with dots := 0, ly := s.ppu.ly + 1, mode := .hblank } } := by
  have hsum : ppuStep 456 s = ppuStep 172 (ppuStep 80 (ppuStep 204 s)) := by
    rw [← ppuStepSplits, ← ppuStepSplits]
  rw [hsum, ppuStep_hblank hm hly hd, ppuStep_oamScan rfl rfl, ppuStep_pixelTransfer rfl rfl]
  rfl

/-- Settles O17: the pixels of the line rendered are those of `lineOf`, and rendering leaves the other lines. -/
theorem ppuLineTakes456Dots : Obligations.PpuLineTakes456Dots := by
  unfold Obligations.PpuLineTakes456Dots
  intro s hm hly hd t
  have ht : t = _ := ppuStep_line hm (by omega) hd
  rw [ht]
  exact ⟨rfl, rfl, rfl, rfl, rfl, fun x _ => renderLine_pixel_same s (s.ppu.ly + 1) x,
    fun y x hy => renderLine_pixel_ne s x hy⟩

/-! ## The position in the frame -/

/-- The dots of a line before a mode of it begins. -/
def modeStart : PpuMode → Nat
  | .oamScan | .vblank => 0
  | .pixelTransfer => 80
  | .hblank => 252

/-- The dots since the frame began. -/
def Ppu.position (p : Ppu) : Nat := 456 * p.ly + modeStart p.mode + p.dots

/-- The position tells mode, line and dots. -/
theorem Ppu.InStep.ext {p q : Ppu} (hp : p.InStep) (hq : q.InStep) (h : p.position = q.position) :
    p.mode = q.mode ∧ p.ly = q.ly ∧ p.dots = q.dots := by
  obtain ⟨hpv, -, hpd⟩ := hp
  obtain ⟨hqv, -, hqd⟩ := hq
  unfold Ppu.position at h
  cases hpm : p.mode <;> cases hqm : q.mode <;>
    simp only [hpm, hqm, budget, modeStart, ne_eq, reduceCtorEq, not_false_eq_true, not_true_eq_false, iff_true,
      iff_false, true_and, false_and] at * <;> omega

/-- VBlank begins at 144 lines of 456 dots. -/
theorem Ppu.InStep.vblank_iff {p : Ppu} (hp : p.InStep) : p.mode = .vblank ↔ 65664 ≤ p.position := by
  obtain ⟨hv, -, hd⟩ := hp
  unfold Ppu.position
  cases hm : p.mode <;>
    simp only [hm, budget, modeStart, ne_eq, reduceCtorEq, not_false_eq_true, not_true_eq_false, iff_true,
      iff_false, true_iff, false_iff] at * <;> omega

theorem ppuStep_inStep {s : State} (h : s.ppu.InStep) (c : Nat) : (ppuStep c s).ppu.InStep :=
  ppuStepKeepsModeAndLine c s h.visible h.line

/-- What one dot does: it moves the position on, and where it enters VBlank presents the picture and raises IF.0. -/
structure OneDot (s t : State) : Prop where
  position : t.ppu.position = (s.ppu.position + 1) % 70224
  before : s.ppu.position + 1 ≠ 65664 → t.ppu.presented = s.ppu.presented ∧ t.ifl = s.ifl
  entry : s.ppu.position + 1 = 65664 → t.ppu.presented = s.ppu.fb :: s.ppu.presented ∧
    t.ifl = if s.ie.getLsbD 0 then s.ifl ||| 0x01 else s.ifl

/-- Inside a mode the next dot neither enters VBlank nor ends the frame. -/
theorem Ppu.InStep.inside_mode {p : Ppu} (hp : p.InStep) (h : p.dots + 1 < budget p.mode) :
    p.position + 1 ≠ 65664 ∧ p.position + 1 < 70224 := by
  obtain ⟨hv, hl, -⟩ := hp
  unfold Ppu.position
  cases hm : p.mode <;>
    simp only [hm, budget, modeStart, ne_eq, reduceCtorEq, not_false_eq_true, not_true_eq_false, iff_true,
      iff_false] at * <;> omega

theorem OneDot.of_quiet {s t : State} (hne : s.ppu.position + 1 ≠ 65664)
    (hpos : t.ppu.position = (s.ppu.position + 1) % 70224) (hp : t.ppu.presented = s.ppu.presented)
    (hi : t.ifl = s.ifl) : OneDot s t := ⟨hpos, fun _ => ⟨hp, hi⟩, fun he => absurd he hne⟩

/-- The last dot of a mode is at a boundary of modes, and the transition is the one of that boundary. -/
theorem oneDot_transition {s : State} (h : s.ppu.InStep) (hend : s.ppu.dots + 1 = budget s.ppu.mode) :
    OneDot s { s.transition with ppu := { s.transition.ppu with dots := 0 } } := by
  obtain ⟨hv, hl, -⟩ := h
  have hpos : s.ppu.position + 1 = 456 * s.ppu.ly + modeStart s.ppu.mode + budget s.ppu.mode := by
    rw [← hend]
    rfl
  cases hm : s.ppu.mode <;> rw [hm] at hv hpos <;> simp only [modeStart, budget] at hpos
  case oamScan =>
    have hly := hv.2 nofun
    rw [transition_oamScan hm]
    refine .of_quiet (by omega) ?_ rfl rfl
    show 456 * s.ppu.ly + 80 + 0 = _
    omega
  case pixelTransfer =>
    have hly := hv.2 nofun
    rw [transition_pixelTransfer hm]
    refine .of_quiet (by omega) ?_ rfl rfl
    show 456 * s.ppu.ly + 252 + 0 = _
    omega
  case hblank =>
    have hly := hv.2 nofun
    by_cases hlast : s.ppu.ly = 143
    · rw [transition_hblank_last hm hlast]
      refine ⟨?_, fun hne => absurd hpos (by omega), fun _ => ⟨rfl, rfl⟩⟩
      show 456 * 144 + 0 + 0 = _
      omega
    · rw [transition_hblank hm hlast]
      refine .of_quiet (by omega) ?_ rfl rfl
      show 456 * (s.ppu.ly + 1) + 0 + 0 = _
      omega
  case vblank =>
    have hly : ¬ s.ppu.ly ≤ 143 := fun h => hv.1 h rfl
    by_cases hlast : s.ppu.ly = 153
    · rw [transition_vblank_last hm hlast]
      refine .of_quiet (by omega) ?_ rfl rfl
      show 456 * 0 + 0 + 0 = _
      omega
    · rw [transition_vblank hm hlast]
      refine .of_quiet (by omega) ?_ rfl rfl
      show 456 * (s.ppu.ly + 1) + modeStart s.ppu.mode + 0 = _
      rw [hm, modeStart]
      omega

theorem ppuStep_oneDot {s : State} (h : s.ppu.InStep) : OneDot s (ppuStep 1 s) := by
  rcases Nat.lt_or_ge (s.ppu.dots + 1) (budget s.ppu.mode) with hlt | hge
  · obtain ⟨hne, hframe⟩ := h.inside_mode hlt
    rw [ppuStep_below 1 s hlt]
    exact .of_quiet hne (Nat.mod_eq_of_lt hframe).symm rfl rfl
  · have hend : s.ppu.dots + 1 = budget s.ppu.mode := Nat.le_antisymm h.dots hge
    rw [ppuStep_transition (d := 0) (by omega) hend]
    exact oneDot_transition h hend

/-! ## A frame -/

theorem ppuStep_zero {s : State} (h : s.ppu.InStep) : ppuStep 0 s = s := ppuStep_below 0 s h.dots

theorem Ppu.InStep.position_lt {p : Ppu} (hp : p.InStep) : p.position < 70224 := by
  obtain ⟨-, hl, hd⟩ := hp
  unfold Ppu.position
  cases hm : p.mode <;> simp only [hm, budget, modeStart] at * <;> omega

/-- `c` dots move the position by `c`, modulo the frame, and present one picture at each entry to VBlank they pass; 4560 dots
are left in the frame at the entry. -/
theorem ppuStep_position {s : State} (h : s.ppu.InStep) (c : Nat) :
    (ppuStep c s).ppu.position = (s.ppu.position + c) % 70224 ∧
      (ppuStep c s).ppu.presented.length + (s.ppu.position + 4560) / 70224 =
        s.ppu.presented.length + (s.ppu.position + 4560 + c) / 70224 := by
  induction c with
  | zero =>
    rw [ppuStep_zero h]
    exact ⟨(Nat.mod_eq_of_lt h.position_lt).symm, rfl⟩
  | succ c ih =>
    obtain ⟨hpos, hcount⟩ := ih
    have hdot := ppuStep_oneDot (ppuStep_inStep h c)
    rw [ppuStepSplits c 1]
    by_cases hentry : (ppuStep c s).ppu.position + 1 = 65664
    · rw [hdot.position, (hdot.entry hentry).1, List.length_cons]
      omega
    · rw [hdot.position, (hdot.before hentry).1]
      omega

/-- Settles O20: a frame's dots bring the position back, and pass one entry to VBlank. -/
theorem frameTakes70224Dots : Obligations.FrameTakes70224Dots := by
  unfold Obligations.FrameTakes70224Dots
  intro s h t
  have hlt := h.position_lt
  obtain ⟨hpos, hcount⟩ := ppuStep_position h 70224
  obtain ⟨hmode, hly, hdots⟩ := (ppuStep_inStep h 70224).ext h (by omega)
  have hone : (ppuStep 70224 s).ppu.presented.length = s.ppu.presented.length + 1 := by omega
  exact ⟨hmode, hly, hdots, hone⟩

/-- Before the entry to VBlank nothing is presented and IF stands. -/
theorem ppuStep_before_entry {s : State} (h : s.ppu.InStep) (hstart : s.ppu.position = 0) (c : Nat) (hc : c < 65664) :
    (ppuStep c s).ppu.position = c ∧ (ppuStep c s).ppu.presented = s.ppu.presented ∧ (ppuStep c s).ifl = s.ifl := by
  induction c with
  | zero =>
    rw [ppuStep_zero h]
    exact ⟨hstart, rfl, rfl⟩
  | succ c ih =>
    obtain ⟨hpos, hpresented, hifl⟩ := ih (by omega)
    have hdot := ppuStep_oneDot (ppuStep_inStep h c)
    obtain ⟨hp, hi⟩ := hdot.before (by omega)
    rw [ppuStepSplits c 1]
    exact ⟨by rw [hdot.position, hpos]; omega, hp.trans hpresented, hi.trans hifl⟩

/-- Settles O21: the position is the number of dots fed, and VBlank begins at 65,664. -/
theorem firstVBlankAfter65664Dots : Obligations.FirstVBlankAfter65664Dots := by
  unfold Obligations.FirstVBlankAfter65664Dots
  intro s hm hly hd
  have h : s.ppu.InStep := ⟨by rw [hm, hly]; exact iff_of_true (by omega) nofun, by omega, by rw [hm, hd]; decide⟩
  have hstart : s.ppu.position = 0 := by rw [Ppu.position, hm, hly, hd]; rfl
  refine ⟨fun c hc => ?before, ?entry⟩
  case before =>
    obtain ⟨hpos, hpresented, -⟩ := ppuStep_before_entry h hstart c hc
    exact ⟨fun hvb => absurd ((ppuStep_inStep h c).vblank_iff.1 hvb) (by omega), hpresented⟩
  case entry =>
    obtain ⟨hpos, hpresented, hifl⟩ := ppuStep_before_entry h hstart 65663 (by omega)
    have hdot := ppuStep_oneDot (ppuStep_inStep h 65663)
    rw [← ppuStepSplits 65663 1] at hdot
    obtain ⟨hp, hi⟩ := hdot.entry (by omega)
    have hentry : (ppuStep 65664 s).ppu.position = 65664 := by rw [hdot.position, hpos]
    obtain ⟨hmode, hly', hdots⟩ := (ppuStep_inStep h 65664).ext (q := { s.ppu with mode := .vblank, ly := 144 })
      ⟨iff_of_false (by simp) (fun hne => hne rfl), by simp, by simp [hd, budget]⟩
      (by rw [hentry, Ppu.position, hd]; rfl)
    exact ⟨hmode, hly', hdots.trans hd, by rw [hp, hpresented, List.length_cons], by rw [hi, hifl, ppuStep_ie]⟩

end Sys2Proof.Machine
end

section
/-! PROOFS. The invariant of a machine that goes on (60_exceptions.md R347; 10_state.md R22, R34, R37, R38, R41, R43): reset has
it, and each part of an iteration keeps it. -/

namespace Sys2Proof.Machine

/-! ## Reset -/

/-- Settles O14: the tables of the state after reset are empty, and the rest is evaluated. -/
theorem resetMeetsInvariant : Obligations.ResetMeetsInvariant where
  mem_wf := Memory.wf_reset.1
  mem_storage := nofun
  rom_wf := Memory.wf_reset.2
  rom_image := nofun
  cart := rfl
  flags := rfl
  running := rfl
  params := rfl
  ppu := ⟨by decide, by decide, by decide⟩
  screen := ⟨⟨.nil, nofun⟩, nofun⟩
  shown := nofun
  bgidx := List.length_replicate
  palettes := ⟨rfl, rfl, rfl⟩

/-! ## Fetch, instruction and interrupt step -/

/-- What the bus and the register writes keep holds the whole invariant. -/
theorem Keeps.inv {s u : State} (h : Keeps s u) (hf : u.fault = s.fault) (hs : s.Inv) : u.Inv where
  mem_wf := (h.mem ⟨hs.mem_wf, hs.mem_storage⟩).1
  mem_storage := (h.mem ⟨hs.mem_wf, hs.mem_storage⟩).2
  rom_wf := h.rom ▸ hs.rom_wf
  rom_image := by rw [h.rom, h.romSize]; exact hs.rom_image
  cart := by rw [h.cartType, h.rom]; exact hs.cart
  flags := h.flags hs.flags
  running := hf.trans hs.running
  params := h.params ▸ hs.params
  ppu := ⟨by rw [h.ly, h.mode]; exact hs.ppu.visible, by rw [h.ly]; exact hs.ppu.line,
    by rw [h.dots, h.mode]; exact hs.ppu.dots⟩
  screen := h.fb ▸ hs.screen
  shown := h.presented ▸ hs.shown
  bgidx := h.bgidx ▸ hs.bgidx
  palettes := h.palettes hs.palettes

/-! ## The PPU step -/

/-- The parts of the invariant that a transition writes. -/
structure PicturesOk (s : State) : Prop where
  fits : s.ppu.ModeFitsLine
  screen : s.ppu.fb.Ok
  shown : ∀ f ∈ s.ppu.presented, Screen.Ok f
  bgidx : s.ppu.bgidx.length = 160

theorem transition_picturesOk {s : State} (h : PicturesOk s) : PicturesOk s.transition := by
  have hfits := transition_modeFitsLine h.fits
  obtain ⟨⟨hvisible, -⟩, hscreen, hshown, hbgidx⟩ := h
  cases hm : s.ppu.mode <;> rw [hm] at hvisible
  case oamScan => rw [transition_oamScan hm] at hfits ⊢; exact ⟨hfits, hscreen, hshown, hbgidx⟩
  case pixelTransfer =>
    have hly : s.ppu.ly < 144 := Nat.lt_succ_of_le (hvisible.2 nofun)
    rw [transition_pixelTransfer hm] at hfits ⊢
    exact ⟨hfits, renderLine_screen s s.ppu.ly hly hscreen, hshown, bgLine_length s s.ppu.ly⟩
  case hblank =>
    by_cases hlast : s.ppu.ly = 143
    · rw [transition_hblank_last hm hlast] at hfits ⊢
      exact ⟨hfits, hscreen, List.forall_mem_cons.2 ⟨hscreen, hshown⟩, hbgidx⟩
    · rw [transition_hblank hm hlast] at hfits ⊢
      exact ⟨hfits, hscreen, hshown, hbgidx⟩
  case vblank =>
    by_cases hlast : s.ppu.ly = 153
    · rw [transition_vblank_last hm hlast] at hfits ⊢
      exact ⟨hfits, hscreen, hshown, hbgidx⟩
    · rw [transition_vblank hm hlast] at hfits ⊢
      exact ⟨hfits, hscreen, hshown, hbgidx⟩

theorem ppuStep_inv {s : State} (hs : s.Inv) (c : Nat) : (ppuStep c s).Inv := by
  have hpictures : PicturesOk (ppuStep c s) :=
    ppuStep_induction PicturesOk (fun _ _ h => ⟨h.fits, h.screen, h.shown, h.bgidx⟩)
      (fun _ => transition_picturesOk) c s ⟨⟨hs.ppu.visible, hs.ppu.line⟩, hs.screen, hs.shown, hs.bgidx⟩
  have hinStep := ppuStep_inStep hs.ppu c
  have hpalettes : PalettesOk (ppuStep c s) := by
    unfold PalettesOk
    rw [(ppuStep_only c s).ppu, ppuStep_params]
    exact hs.palettes
  constructor
  case ppu => exact hinStep
  case screen => exact hpictures.screen
  case shown => exact hpictures.shown
  case bgidx => exact hpictures.bgidx
  case palettes => exact hpalettes
  case mem_wf => rw [ppuStep_mem]; exact hs.mem_wf
  case mem_storage => rw [ppuStep_mem]; exact hs.mem_storage
  case rom_wf => rw [ppuStep_rom]; exact hs.rom_wf
  case rom_image => rw [ppuStep_rom, ppuStep_romSize]; exact hs.rom_image
  case cart => rw [ppuStep_cartType, ppuStep_rom]; exact hs.cart
  case flags => rw [ppuStep_regs]; exact hs.flags
  case running => rw [ppuStep_fault]; exact hs.running
  case params => rw [ppuStep_params]; exact hs.params

/-! ## The iteration -/

theorem State.Inv.setTotal {s : State} (h : s.Inv) (n : Nat) : State.Inv { s with totalCycles := n } :=
  ⟨h.mem_wf, h.mem_storage, h.rom_wf, h.rom_image, h.cart, h.flags, h.running, h.params, h.ppu, h.screen, h.shown,
    h.bgidx, h.palettes⟩

@[simp] theorem wake_fault (s : State) : s.wake.fault = s.fault := by rw [wake_eq]

theorem irqStep_inv {s t : State} {n : Nat} (h : irqStep s = .ok n t) (hs : s.Inv) : t.Inv := by
  have hkeeps := irqStep_keeps s
  rw [h] at hkeeps
  exact hkeeps.1.inv hkeeps.2 hs

theorem finishIteration_inv {c : Nat} {s t : State} (h : finishIteration c s = .next t) (hs : s.Inv) : t.Inv := by
  rcases finishIteration_cases c s with ⟨ic, u, hirq, hend⟩ | ⟨_, _, -, hend⟩
  · cases hend.symm.trans h
    have hwake : (ppuStep c s).wake.Inv := (wake_keeps _).inv (wake_fault _) (ppuStep_inv hs c)
    exact (irqStep_inv hirq hwake).setTotal _
  · cases hend.symm.trans h

/-- Settles O15: fetch, instruction, PPU step, wake test and interrupt step each keep the invariant. -/
theorem stepKeepsInvariant : Obligations.StepKeepsInvariant := by
  unfold Obligations.StepKeepsInvariant
  intro s t hs hstep
  rcases step_cases s with ⟨-, h⟩ | ⟨-, ⟨_, -, h⟩ | ⟨-, ⟨-, h⟩ | ⟨-, ⟨_, _, -, h⟩ | ⟨i, m, hfetch, hexec⟩⟩⟩⟩
  · cases h.symm.trans hstep
  · cases h.symm.trans hstep
  · exact finishIteration_inv (h.symm.trans hstep) hs
  · cases h.symm.trans hstep
  · rcases hexec with ⟨u, hu, h⟩ | ⟨_, -, h⟩ | ⟨_, -, h⟩
    · obtain ⟨hm, hmf⟩ := fetch_ok_keeps hfetch
      obtain ⟨hk, hkf⟩ := exec_next_keeps hu
      exact finishIteration_inv (h.symm.trans hstep) (hk.inv hkf (hm.inv hmf hs))
    · cases h.symm.trans hstep
    · cases h.symm.trans hstep

end Sys2Proof.Machine
end

section
/-! PROOFS. The halted iteration (60_exceptions.md R320, R331). -/

namespace Sys2Proof.Machine

theorem wake_of_pending {s : State} (h : s.pending ≠ 0) : s.wake = { s with halted := false } := if_pos h

theorem wake_of_idle {s : State} (h : s.pending = 0) : s.wake = s := if_neg (not_not_intro h)

theorem Stored16.halted {s t : State} {a v : Word} (h : Stored16 s a v t) : t.halted = s.halted := by
  obtain ⟨m, hlow, hhigh⟩ := h
  rw [hhigh.rest, hlow.rest]

theorem step_halted {s : State} (hl : s.params.legal = true) (hf : s.fault = none) (hh : s.halted = true) :
    step s = finishIteration 4 s := by
  rw [step, if_pos hl, hf, hh]
  rfl

/-- Settles O11: a halted iteration is the end of an iteration of cost 4, and the wake test decides which end. -/
theorem haltedIterationIdlesUntilPending : Obligations.HaltedIterationIdlesUntilPending := by
  unfold Obligations.HaltedIterationIdlesUntilPending
  intro s hl hf hh u
  have hcycles : u.totalCycles = s.totalCycles := ppuStep_totalCycles 4 s
  rw [step_halted hl hf hh]
  refine ⟨fun hp => ?idle, fun hp hime => ?wakes, fun hp hime hw => ?services⟩
  case idle =>
    have hirq : irqStep u.wake = .ok 0 u := by rw [wake_of_idle hp, irqStep_idle u (.inr hp)]
    refine ⟨?_, (ppuStep_halted 4 s).trans hh, ppuStep_regs 4 s⟩
    rw [finishIteration_of_irqStep hirq, hcycles]
  case wakes =>
    have hirq : irqStep u.wake = .ok 0 { u with halted := false } := by
      rw [wake_of_pending hp]
      exact irqStep_idle _ (.inl ((ppuStep_ime 4 s).trans hime))
    rw [finishIteration_of_irqStep hirq, hcycles]
  case services =>
    have hregs : u.regs = s.regs := ppuStep_regs 4 s
    obtain ⟨w, hstored, hirq⟩ := irqStep_services { u with halted := false } ((ppuStep_ime 4 s).trans hime) hp
      (by rw [← hregs] at hw; exact hw)
    refine ⟨_, hirq, hstored.halted, ?_⟩
    have htotal := (irqStep_totalCycles hirq).trans hcycles
    rw [finishIteration_of_irqStep ((congrArg irqStep (wake_of_pending hp)).trans hirq), htotal]

end Sys2Proof.Machine
end

section
/-! PROOFS. Rendering (60_exceptions.md R348-R354; 20_memory.md R83): the tile cache is the decode of VRAM, the background
index in integers, and the pixel that the sprites of a line leave. -/

namespace Sys2Proof.Machine

/-! ## The tile cache -/

/-- Between the ROM and the I/O window, and above it below IE, the bus holds the byte of storage that the address reaches. -/
theorem stored_of_ram {a : Word} (s : State)
    (h : (0x8000 ≤ a.toNat ∧ a.toNat < 0xFF00) ∨ (0xFF80 ≤ a.toNat ∧ a.toNat < 0xFFFF)) :
    s.stored a = s.mem.read (home a).toNat := by
  obtain ⟨r, hr⟩ := Option.isSome_iff_exists.1 (region_isSome a)
  have hin := (region_eq_some_iff a r).1 hr
  rw [State.stored, hr]
  cases r
  case rom | io | ie => simp only [Region.Holds] at hin; omega
  all_goals rfl

/-- VRAM is plain storage on the bus. -/
theorem stored_vram (s : State) {o : Nat} (h : o < 0x2000) : s.stored (BitVec.ofNat 16 (0x8000 + o)) = s.vram o := by
  have hn : (BitVec.ofNat 16 (0x8000 + o)).toNat = 0x8000 + o := by rw [BitVec.toNat_ofNat]; omega
  rw [stored_of_ram s (by omega), home_of_not_mirror _ (by omega), hn]
  rfl

/-- A pixel of two planes has the bit of the second above the bit of the first (20_memory.md R67, D23). -/
theorem planePixel_toNat (lo hi : Byte) (x : Nat) :
    (planePixel lo hi x).toNat = 2 * (hi.toNat / 2 ^ (7 - x) % 2) + lo.toNat / 2 ^ (7 - x) % 2 := by
  have hlo : (lo.getLsbD (7 - x)).toNat = lo.toNat / 2 ^ (7 - x) % 2 := Nat.toNat_testBit lo.toNat (7 - x)
  have hhi : (hi.getLsbD (7 - x)).toNat = hi.toNat / 2 ^ (7 - x) % 2 := Nat.toNat_testBit hi.toNat (7 - x)
  have happend : ∀ p q : Bool, (BitVec.ofBool p ++ BitVec.ofBool q).toNat = 2 * p.toNat + q.toNat := by decide
  rw [planePixel, happend, hlo, hhi]

/-- Settles O23: a tile's bytes lie in VRAM, and a pixel is its two bits. -/
theorem tileCacheIsVramDecode : Obligations.TileCacheIsVramDecode := by
  unfold Obligations.TileCacheIsVramDecode
  intro s t y x ht hy hx
  have hlo := stored_vram s (o := 16 * t + 2 * y) (by omega)
  have hhi := stored_vram s (o := 16 * t + 2 * y + 1) (by omega)
  simp only [← Nat.add_assoc] at hlo hhi
  rw [hlo, hhi]
  exact planePixel_toNat _ _ x

/-! ## The background -/

theorem byteSum_toNat (n : Nat) (v : Byte) : (BitVec.ofNat 8 n + v).toNat = (n + v.toNat) % 256 := by
  rw [BitVec.toNat_add, BitVec.toNat_ofNat, Nat.mod_add_mod]

/-- The signed tile numbers count from 256 (60_exceptions.md R349). -/
theorem tileOf_eq (lcdc t : Byte) : tileOf lcdc t = if lcdc.getLsbD 4 then t.toNat else (256 + t.toInt).toNat := by
  have ht := t.isLt
  have hint : t.toInt = if 2 * t.toNat < 256 then (t.toNat : Int) else t.toNat - 256 := BitVec.toInt_eq_toNat_cond t
  unfold tileOf
  split
  · rfl
  · rw [hint]
    split <;> split <;> omega

/-- The model's index of the background is the statements' one, which reads the tile map through the bus. -/
theorem bgIndex_eq_bgAt (s : State) (ly x : Nat) : s.bgIndex ly x = s.bgAt ly x := by
  cases hon : s.ppu.lcdc.getLsbD 0 with
  | false => rw [bgIndex_off hon, State.bgAt, if_pos hon]
  | true =>
    have hmap : ∀ o, o < 0x400 → s.stored (BitVec.ofNat 16 ((if s.ppu.lcdc.getLsbD 3 then 0x9C00 else 0x9800) + o)) =
        s.vram (mapBase s.ppu.lcdc + o) := by
      intro o ho
      unfold mapBase
      split
      · rw [← stored_vram s (o := 0x1C00 + o) (by omega), ← Nat.add_assoc]
      · rw [← stored_vram s (o := 0x1800 + o) (by omega), ← Nat.add_assoc]
    unfold State.bgIndex State.bgAt
    rw [if_pos hon, if_neg (by rw [hon]; exact nofun)]
    simp only [byteSum_toNat]
    rw [Nat.add_assoc, Nat.add_assoc, hmap _ (by omega), tileOf_eq]

theorem bgLine_getD (s : State) (ly : Nat) {x : Nat} (hx : x < 160) : (s.bgLine ly).getD x 0 = s.bgAt ly x := by
  rw [← bgIndex_eq_bgAt]
  simp [State.bgLine, hx]

/-- Settles O24: the framebuffer and the indexes are the two fields written. -/
theorem renderWritesOneLine : Obligations.RenderWritesOneLine := by
  unfold Obligations.RenderWritesOneLine
  exact fun s ly => ⟨rfl, fun _ x hy => renderLine_pixel_ne s x hy, fun _ hx => bgLine_getD s ly hx⟩

end Sys2Proof.Machine
end

section
/-! PROOFS. The pixel of a rendered line (60_exceptions.md R348-R353; 92_eei_decisions.md D31, D33): what a column of a sprite,
a sprite, and the sprites in their order leave at a column of the line. -/

namespace Sys2Proof.Machine

/-! ## Painting one after another -/

/-- Painters of one colour `v`: the pixel has it where one of them paints it. -/
theorem foldl_paint {x : Nat} {f : Line → Nat → Line} {paints : Nat → Prop} [DecidablePred paints] {v : Rgb}
    (hlength : ∀ px c, (f px c).length = px.length)
    (hf : ∀ px c, x < px.length → (f px c).getD x Rgb.black = if paints c then v else px.getD x Rgb.black)
    (cs : List Nat) (px : Line) (hx : x < px.length) :
    (cs.foldl f px).getD x Rgb.black = if ∃ c ∈ cs, paints c then v else px.getD x Rgb.black := by
  induction cs generalizing px with
  | nil => simp
  | cons c cs ih =>
    rw [List.foldl_cons, ih _ (hlength px c ▸ hx), hf px c hx]
    by_cases hc : paints c <;> simp [hc]

/-- Painters in descending order: the pixel has the colour of the first of the list that paints it. -/
theorem foldr_paint {x : Nat} {f : Nat → Line → Line} {paints : Nat → Bool} {v : Nat → Rgb}
    (hlength : ∀ i px, (f i px).length = px.length)
    (hf : ∀ i px, x < px.length → (f i px).getD x Rgb.black = if paints i then v i else px.getD x Rgb.black)
    (l : List Nat) (px : Line) (hx : x < px.length) :
    (l.foldr f px).getD x Rgb.black = ((l.find? paints).map v).getD (px.getD x Rgb.black) := by
  have hlengths : ∀ l : List Nat, (l.foldr f px).length = px.length := by
    intro l
    induction l with
    | nil => rfl
    | cons i l ih => rw [List.foldr_cons, hlength, ih]
  induction l with
  | nil => rfl
  | cons i l ih =>
    rw [List.foldr_cons, hf i _ (hlengths l ▸ hx), ih, List.find?_cons]
    cases paints i <;> rfl

/-! ## A column of a sprite, a sprite -/

/-- The colour sprite `i` has where it shows. -/
def State.spriteColour (s : State) (i ly x : Nat) : Rgb :=
  (if (s.sprite i).attr.getLsbD 4 then s.ppu.objPal1 else s.ppu.objPal0).entry (s.spriteAt i ly x)

/-- Column `c` of a sprite paints the pixel 8 to the left of X plus `c`, where it is neither transparent nor hidden. -/
theorem drawColumn_getD (s : State) (o : Sprite) (ly : Nat) (bg : List (BitVec 2)) (px : Line) (c : Nat) {x : Nat}
    (hx : x < 160) (hlength : x < px.length) :
    (s.drawColumn o ly bg px c).getD x Rgb.black =
      if o.x.toNat + c = x + 8 ∧ s.spriteIndex o ly c ≠ 0 ∧ (o.attr.getLsbD 7 = true → bg.getD x 0 = 0) then
        (if o.attr.getLsbD 4 then s.ppu.objPal1 else s.ppu.objPal0).entry (s.spriteIndex o ly c)
      else px.getD x Rgb.black := by
  have hset (v : Rgb) : (px.set x v).getD x Rgb.black = v := by simp [List.getD, hlength]
  have hset_ne {y : Nat} (hy : y ≠ x) (v : Rgb) : (px.set y v).getD x Rgb.black = px.getD x Rgb.black := by
    simp [List.getD, List.getElem?_set_ne hy]
  unfold State.drawColumn
  simp only
  generalize (if o.attr.getLsbD 4 then s.ppu.objPal1 else s.ppu.objPal0).entry (s.spriteIndex o ly c) = colour
  by_cases hc : o.x.toNat + c = x + 8
  · have hat : o.x.toNat + c - 8 = x := by omega
    have hinside : ¬ (o.x.toNat + c < 8 ∨ 160 ≤ x) := by omega
    rw [hat, if_neg hinside]
    by_cases hzero : s.spriteIndex o ly c = 0
    · rw [if_pos hzero, if_neg fun h => h.2.1 hzero]
    · rw [if_neg hzero]
      by_cases hhidden : o.attr.getLsbD 7 = true ∧ bg.getD x 0 ≠ 0
      · rw [if_pos hhidden, if_neg fun h => hhidden.2 (h.2.2 hhidden.1)]
      · rw [if_neg hhidden, if_pos ⟨hc, hzero, fun hbehind => not_not.1 fun hne => hhidden ⟨hbehind, hne⟩⟩, hset]
  · rw [if_neg fun h : _ ∧ _ ∧ _ => hc h.1]
    split_ifs with hclip
    · rfl
    · rfl
    · rfl
    · exact hset_ne (by omega) colour

/-- The model's colour index, at the column that covers the pixel, is the statements' one. -/
theorem spriteIndex_eq_spriteAt (s : State) {i ly x c : Nat} (hrow : (s.sprite i).y.toNat ≤ ly + 16)
    (hcol : (s.sprite i).x.toNat + c = x + 8) : s.spriteIndex (s.sprite i) ly c = s.spriteAt i ly x := by
  obtain rfl : c = x + 8 - (s.sprite i).x.toNat := by omega
  have hflipY : 7 - (ly + 16 - (s.sprite i).y.toNat) = (s.sprite i).y.toNat + 7 - (ly + 16) := by omega
  have hflipX : 7 - (x + 8 - (s.sprite i).x.toNat) = (s.sprite i).x.toNat + 7 - (x + 8) := by omega
  unfold State.spriteIndex State.spriteAt
  simp only [hflipY, hflipX]

/-- A sprite paints the pixel where it shows, and leaves it elsewhere. -/
theorem drawSprite_getD (s : State) (ly i : Nat) (px : Line) {x : Nat} [Decidable (s.spriteShows i ly x)] (hx : x < 160)
    (hlength : x < px.length) :
    (s.drawSprite ly (s.bgLine ly) px i).getD x Rgb.black =
      if s.spriteShows i ly x then s.spriteColour i ly x else px.getD x Rgb.black := by
  unfold State.drawSprite
  by_cases hrow : (s.sprite i).y.toNat ≤ ly + 16 ∧ ly + 16 < (s.sprite i).y.toNat + 8
  · have honline : (s.sprite i).onLine ly = true := decide_eq_true hrow
    simp only [honline, if_true]
    have hcolumn (px : Line) (c : Nat) (hlength : x < px.length) :
        (s.drawColumn (s.sprite i) ly (s.bgLine ly) px c).getD x Rgb.black =
          if (s.sprite i).x.toNat + c = x + 8 ∧ s.spriteAt i ly x ≠ 0 ∧
              ((s.sprite i).attr.getLsbD 7 = true → s.bgAt ly x = 0) then s.spriteColour i ly x
          else px.getD x Rgb.black := by
      rw [drawColumn_getD s (s.sprite i) ly (s.bgLine ly) px c hx hlength, bgLine_getD s ly hx]
      by_cases hc : (s.sprite i).x.toNat + c = x + 8
      · rw [spriteIndex_eq_spriteAt s hrow.1 hc]
        rfl
      · rw [if_neg fun h : _ ∧ _ => hc h.1, if_neg fun h : _ ∧ _ => hc h.1]
    have hcover : (∃ c ∈ List.range 8, (s.sprite i).x.toNat + c = x + 8 ∧ s.spriteAt i ly x ≠ 0 ∧
        ((s.sprite i).attr.getLsbD 7 = true → s.bgAt ly x = 0)) ↔ s.spriteShows i ly x := by
      constructor
      · rintro ⟨c, hc, hcol, hshows⟩
        have := List.mem_range.1 hc
        exact ⟨hrow, by omega, hshows⟩
      · rintro ⟨-, hcol, hshows⟩
        exact ⟨x + 8 - (s.sprite i).x.toNat, List.mem_range.2 (by omega), by omega, hshows⟩
    rw [foldl_paint (drawColumn_length s (s.sprite i) ly (s.bgLine ly)) hcolumn (List.range 8) px hlength]
    exact if_congr hcover rfl rfl
  · have honline : (s.sprite i).onLine ly = false := decide_eq_false hrow
    simp only [honline, Bool.false_eq_true, if_false]
    rw [if_neg fun h => hrow h.1]

/-! ## The line -/

/-- With sprites on, a pixel has the colour of the lowest-index sprite that shows there, else the background's. -/
theorem lineOf_getD_sprites_on {s : State} (hon : s.ppu.lcdc.getLsbD 1 = true) (ly : Nat) {x : Nat} (hx : x < 160)
    [DecidablePred fun i => s.spriteShows i ly x] :
    (s.lineOf ly).getD x Rgb.black =
      (((List.range 40).find? fun i => decide (s.spriteShows i ly x)).map fun i => s.spriteColour i ly x).getD
        (s.bgColour (s.bgAt ly x)) := by
  have hbg : ((s.bgLine ly).map s.bgColour).getD x Rgb.black = s.bgColour (s.bgAt ly x) := by
    rw [← bgIndex_eq_bgAt]
    simp [State.bgLine, hx]
  unfold State.lineOf State.drawSprites
  rw [if_pos hon, List.foldl_reverse, ← hbg]
  refine foldr_paint (fun i px => drawSprite_length s ly (s.bgLine ly) px i) (fun i px hlength => ?_) (List.range 40) _
    (by simpa using hx)
  rw [drawSprite_getD s ly i px hx hlength]
  simp only [decide_eq_true_eq]

theorem bgColour_eq (s : State) (idx : BitVec 2) :
    s.bgColour idx = if s.ppu.lcdc.getLsbD 0 then s.ppu.bgPal.entry idx else s.params.shade 0 := rfl

/-- Settles O22: the first sprite of 0, ..., 39 that shows is the one that no lower one hides. -/
theorem renderedPixelIsTopmostSpriteOrBackground : Obligations.RenderedPixelIsTopmostSpriteOrBackground := by
  unfold Obligations.RenderedPixelIsTopmostSpriteOrBackground
  classical
  refine fun s ly x _ hx => ⟨fun hon i hi hshows hlower => ?sprite, fun hnone => ?background⟩ <;>
    rw [renderLine_pixel_same]
  case sprite =>
    have hfirst : ((List.range 40).find? fun i => decide (s.spriteShows i ly x)) = some i :=
      List.find?_range_eq_some.2 ⟨decide_eq_true hshows, List.mem_range.2 hi, fun j hj => by simp [hlower j hj]⟩
    rw [lineOf_getD_sprites_on hon ly hx, hfirst]
    rfl
  case background =>
    rw [← bgColour_eq]
    cases hon : s.ppu.lcdc.getLsbD 1 with
    | false => rw [lineOf_sprites_off hon ly x hx, bgIndex_eq_bgAt]
    | true =>
      have hall := hnone.resolve_left (by rw [hon]; exact nofun)
      have hno : ((List.range 40).find? fun i => decide (s.spriteShows i ly x)) = none :=
        List.find?_range_eq_none.2 fun i hi => by simp [hall i hi]
      rw [lineOf_getD_sprites_on hon ly hx, hno]
      rfl

end Sys2Proof.Machine
end

section
/-! PROOFS. Byte reads (20_memory.md R62, R64, R66, R68-R72, R75, R77, R79-R81): which addresses take a draw, and what the
others answer. -/

namespace Sys2Proof.Machine

/-! ## Reads that take no draw -/

theorem readValue_eq_stored {s : State} {a : Word} (hjoypad : a ≠ 0xFF00)
    (hrnd : region a = some .io → a ≠ s.params.randomAddr) : s.readValue a = s.stored a := by
  rw [State.readValue, if_neg hjoypad, if_neg fun h => hrnd h.1 h.2]

theorem drawn_eq_self {s : State} {a : Word} (hjoypad : a ≠ 0xFF00)
    (hrnd : region a = some .io → a ≠ s.params.randomAddr) : s.drawn a = s := by
  rw [State.drawn, if_neg hjoypad, if_neg fun h => hrnd h.1 h.2]

theorem readable_of_ge {a : Word} (s : State) (h : 0x8000 ≤ a.toNat) : s.readable a := fun hlt => absurd hlt (by omega)

/-- Above the ROM an address that takes no draw answers the byte the bus holds. -/
theorem read8_of_stored {s : State} {a : Word} (h : 0x8000 ≤ a.toNat) (hjoypad : a ≠ 0xFF00)
    (hrnd : region a = some .io → a ≠ s.params.randomAddr) : read8 a s = .ok (s.stored a) s := by
  rw [read8_ok a s (readable_of_ge s h), readValue_eq_stored hjoypad hrnd, drawn_eq_self hjoypad hrnd]

/-- Outside the I/O window no read takes a draw. -/
theorem read8_of_ram {a : Word} (s : State)
    (h : (0x8000 ≤ a.toNat ∧ a.toNat < 0xFF00) ∨ (0xFF80 ≤ a.toNat ∧ a.toNat < 0xFFFF)) :
    read8 a s = .ok (s.mem.read (home a).toNat) s := by
  have hio : region a ≠ some .io := fun hio => by have := (region_io a).1 hio; omega
  have hjoypad : a ≠ 0xFF00 := by rintro rfl; exact hio (by decide)
  rw [read8_of_stored (by omega) hjoypad fun h => absurd h hio, stored_of_ram s h]

theorem read8_of_ram_not_mirror {a : Word} (s : State)
    (h : (0x8000 ≤ a.toNat ∧ a.toNat < 0xE000) ∨ (0xFE00 ≤ a.toNat ∧ a.toNat < 0xFF00) ∨
      (0xFF80 ≤ a.toNat ∧ a.toNat < 0xFFFF)) : read8 a s = .ok (s.mem.read a.toNat) s := by
  rw [read8_of_ram s (by omega), home_of_not_mirror a (by omega)]

theorem read8_of_rom {a : Word} {s : State} (h : a.toNat < 0x8000) (hr : a.toNat < s.romSize) :
    read8 a s = .ok (s.rom.read a.toNat) s := by
  have hreg := (region_rom a).2 h
  rw [read8, hreg]
  simp only
  rw [if_pos hr, State.stored, hreg]

/-! ## The registers of the I/O window -/

/-- A legal `RANDOM_ADDR` is none of the registers with a meaning of their own. -/
theorem ne_randomAddr_of_register {s : State} {a : Word} (hl : s.params.legal = true) (h : a.toNat ∈ ioRegisters) :
    a ≠ s.params.randomAddr := by
  rintro rfl
  exact ((legal_iff s.params).1 hl).2 h

theorem read8_of_register {s : State} {a : Word} (hl : s.params.legal = true) (h : a.toNat ∈ ioRegisters) :
    read8 a s = .ok (s.stored a) s := by
  have hrange : ∀ n ∈ ioRegisters, 0xFF01 ≤ n := by decide
  have hlo := hrange _ h
  have hjoypad : a ≠ 0xFF00 := by
    rintro rfl
    exact absurd hlo (by decide)
  exact read8_of_stored (by omega) hjoypad fun _ => ne_randomAddr_of_register hl h

/-- Where the I/O window has no register it is plain storage (20_memory.md R72). -/
theorem ioByte_of_plain {s : State} {a : Word}
    (h : a.toNat ∉ [0xFF0F, 0xFF40, 0xFF42, 0xFF43, 0xFF47, 0xFF48, 0xFF49]) : s.ioByte a = s.mem.read a.toNat := by
  have hne : ∀ r : Word, r.toNat ∈ [0xFF0F, 0xFF40, 0xFF42, 0xFF43, 0xFF47, 0xFF48, 0xFF49] → a ≠ r := by
    rintro r hr rfl
    exact h hr
  rw [State.ioByte, if_neg (hne _ (by decide)), if_neg (hne _ (by decide)), if_neg (hne _ (by decide)),
    if_neg (hne _ (by decide)), if_neg (hne _ (by decide)), if_neg (hne _ (by decide)), if_neg (hne _ (by decide))]

theorem read8_of_plain_io {s : State} {a : Word} (hlo : 0xFF01 ≤ a.toNat) (hhi : a.toNat < 0xFF80)
    (hrnd : a ≠ s.params.randomAddr) (h : a.toNat ∉ [0xFF0F, 0xFF40, 0xFF42, 0xFF43, 0xFF47, 0xFF48, 0xFF49]) :
    read8 a s = .ok (s.mem.read a.toNat) s := by
  have hjoypad : a ≠ 0xFF00 := by
    rintro rfl
    exact absurd hlo (by decide)
  rw [read8_of_stored (by omega) hjoypad fun _ => hrnd, stored_of_io s a ((region_io a).2 (by omega)), ioByte_of_plain h]

theorem read8_randomAddr {s : State} (hl : s.params.legal = true) :
    read8 s.params.randomAddr s = .ok (Config.hostRnd s.rndDraws) { s with rndDraws := s.rndDraws + 1 } := by
  obtain ⟨hlo, hhi⟩ := ((legal_iff s.params).1 hl).1
  have hjoypad : s.params.randomAddr ≠ 0xFF00 := fun h => absurd (h ▸ hlo) (by decide)
  rw [read8, (region_io _).2 (by omega)]
  show readIo _ s = _
  rw [readIo, if_neg hjoypad, if_pos rfl]

/-- A selected group lets its draw through, one that is not selected reads as released (20_memory.md R77). -/
theorem joypadGroups_getLsbD (selDir selAct : Bool) (dir act : BitVec 4) {b : Nat} (hb : b < 4) :
    ((if selDir then 0xF else dir) &&& (if selAct then 0xF else act)).getLsbD b =
      ((selDir || dir.getLsbD b) && (selAct || act.getLsbD b)) := by
  have hones : (15#4).getLsbD b = true := by interval_cases b <;> rfl
  cases selDir <;> cases selAct <;> simp [hones]

/-- Settles O26: a range is one arm of the bus; a legal `RANDOM_ADDR` is no register, so it takes none of their reads. -/
theorem byteReadByRegion : Obligations.ByteReadByRegion := by
  unfold Obligations.ByteReadByRegion
  intro s a hl
  refine ⟨?rom, ?beyond, ?vram_to_wram, ?mirror, ?oam, ?joypad, ?rnd, ?ifl, ?lcdc, ?scy, ?scx, ?bgp, ?obp0, ?obp1, ?plain,
    ?hram, ?ie⟩
  case rom => exact fun h hr => read8_of_rom h hr
  case beyond => exact fun h hr => read8_raises a s fun hread => absurd (hread h) (by omega)
  case vram_to_wram => exact fun lo hi => read8_of_ram_not_mirror s (.inl ⟨lo, hi⟩)
  case mirror => exact fun lo hi => by rw [read8_of_ram s (by omega), home_toNat, if_pos ⟨lo, hi⟩]
  case oam => exact fun lo hi => read8_of_ram_not_mirror s (.inr (.inl ⟨lo, hi⟩))
  case joypad =>
    rintro rfl
    exact ⟨_, fun b hb => joypadGroups_getLsbD _ _ _ _ hb, rfl⟩
  case rnd =>
    rintro rfl
    exact read8_randomAddr hl
  case plain => exact fun lo hi hrnd h => read8_of_plain_io lo hi hrnd h
  case hram => exact fun lo hi => read8_of_ram_not_mirror s (.inr (.inr ⟨lo, hi⟩))
  case ie =>
    rintro rfl
    rfl
  all_goals
    rintro rfl
    exact read8_of_register hl (by decide)

end Sys2Proof.Machine
end

section
/-! PROOFS. The DMA trigger (20_memory.md R76): the copy whose sources are readable, and the first source byte beyond the
image. A word stored in plain storage (R84-R86) reads back. -/

namespace Sys2Proof.Machine

/-! ## The addresses of a copy -/

theorem page_add_eq (v : Byte) {i : Nat} (hi : i < 160) :
    wordOf v 0 + BitVec.ofNat 16 i = BitVec.ofNat 16 (256 * v.toNat + i) := by
  have hv := v.isLt
  apply BitVec.eq_of_toNat_eq
  rw [page_add_toNat v i hi, BitVec.toNat_ofNat]
  omega

theorem table_add_eq (i : Nat) : BitVec.ofNat 16 (0xFE00 + i) = (0xFE00 : Word) + BitVec.ofNat 16 i :=
  BitVec.ofNat_add ..

/-! ## The copy -/

theorem dmaDone_of_readable {s : State} {v : Byte} (h : ∀ i, i < 160 → s.readable (wordOf v 0 + BitVec.ofNat 16 i)) :
    ∃ t, write8 0xFF46 v s = .ok () t ∧ DmaDone (s.storeMem 0xFF46 v) (wordOf v 0) 160 t :=
  dmaCopy_ok (s.storeMem 0xFF46 v) v h 160 _ (Nat.le_refl _) (DmaDone.zero _ _)

/-- A trigger raises at the first source byte beyond the image. -/
theorem write8_dma_raises {s : State} {v : Byte} {n : Nat} (hn : n < 160)
    (hr : ∀ i, i < n → s.readable (wordOf v 0 + BitVec.ofNat 16 i)) (hbad : ¬ s.readable (wordOf v 0 + BitVec.ofNat 16 n)) :
    ∃ t, write8 0xFF46 v s = .raised (.romReadBeyondImage (wordOf v 0 + BitVec.ofNat 16 n)) t :=
  have ⟨_, _, hraise⟩ := dmaCopy_raises (s.storeMem 0xFF46 v) v n hn hr hbad 160 _ (Nat.le_refl _) (Nat.zero_le n)
    (DmaDone.zero _ _)
  ⟨_, hraise⟩

/-- Settles O28, by what the copy's own laws say of the state with the trigger byte stored. -/
theorem dmaCopiesPageToObjectTable : Obligations.DmaCopiesPageToObjectTable := by
  unfold Obligations.DmaCopiesPageToObjectTable
  intro s v
  constructor
  · intro hread
    obtain ⟨t, hw, hdone⟩ := dmaDone_of_readable fun i hi => page_add_eq v hi ▸ hread i hi
    have hst := Stored.of_dma s v t hdone
    refine ⟨t, hw, hst.value (by decide), fun i hi => ?_, fun b hb ht => ?_, hdone.rest⟩
    · rw [table_add_eq, ← page_add_eq v hi]
      exact hdone.table i hi
    · exact hst.others b (.inl fun e => hb (home_iff_of_home 0xFF46 b (by decide) e)) fun _ => ht
  · intro n hn hr hbad
    rw [← page_add_eq v hn] at hbad ⊢
    exact write8_dma_raises hn (fun i hi => page_add_eq v (hi.trans hn) ▸ hr i hi) hbad

/-! ## A word that reads back -/

/-- A read of `a` answers the byte the bus holds there and takes no draw. -/
def State.steady (s : State) (a : Word) : Prop :=
  0x8000 ≤ a.toNat ∧ a ≠ 0xFF00 ∧ (region a = some .io → a ≠ s.params.randomAddr)

theorem State.steady.read8 {s : State} {a : Word} (h : s.steady a) : read8 a s = .ok (s.stored a) s :=
  read8_of_stored h.1 h.2.1 h.2.2

theorem State.steady.of_params {s t : State} {a : Word} (h : s.steady a) (same : t.params = s.params) : t.steady a := by
  rwa [State.steady, same]

theorem steady_of_plain {s : State} {a : Word} (hlo : 0x8000 ≤ a.toNat) (h : a.toNat < 0xFF00 ∨ 0xFF80 ≤ a.toNat) :
    s.steady a := by
  refine ⟨hlo, ?_, fun hio => absurd ((region_io a).1 hio) (by omega)⟩
  rintro rfl
  exact absurd h (by decide)

theorem succ_toNat {a : Word} (h : a.toNat < 0xFFFF) : (a + 1).toNat = a.toNat + 1 := by
  rw [BitVec.toNat_add, show (1 : Word).toNat = 1 from rfl]
  omega

/-- Two bytes of a word in writable space have two homes. -/
theorem home_ne_home_succ {a : Word} (h : 0x8000 ≤ (a + 1).toNat) : home a ≠ home (a + 1) := by
  have hlast : a.toNat ≠ 0xFFFF := fun e => by
    have hz : a + 1 = 0 := by rw [BitVec.eq_of_toNat_eq (y := 0xFFFF) e]; rfl
    rw [hz] at h
    exact absurd h (by decide)
  have hsucc := succ_toNat (a := a) (by have := a.isLt; omega)
  rw [Ne, home_inj_toNat, home_toNat, home_toNat, hsucc]
  split <;> split <;> omega

theorem Stored16.params {s t : State} {a v : Word} (h : Stored16 s a v t) : t.params = s.params := by
  obtain ⟨m, hlow, hhigh⟩ := h
  rw [hhigh.rest, hlow.rest]

/-- The high byte does not disturb the low one: not even a DMA copy that it triggers reaches the byte below 0xFF46. -/
theorem Stored16.bytes {s t : State} {a v : Word} (h : Stored16 s a v t) (hlo : 0x8000 ≤ a.toNat)
    (hhi : 0x8000 ≤ (a + 1).toNat) : t.stored a = lowByte v ∧ t.stored (a + 1) = highByte v := by
  obtain ⟨m, hlow, hhigh⟩ := h
  have htable : a + 1 = 0xFF46 → ¬ inObjectTable a := by
    intro e
    rw [← BitVec.add_sub_cancel a 1, e]
    decide
  exact ⟨(hhigh.others a (.inl (home_ne_home_succ hhi)) htable).trans (hlow.value hlo), hhigh.value hhi⟩

/-- The word stored is the word read, where both bytes are steady. -/
theorem Stored16.read16 {s t : State} {a v : Word} (h : Stored16 s a v t) (ha : s.steady a) (ha' : s.steady (a + 1)) :
    read16 a t = .ok v t := by
  obtain ⟨hlow, hhigh⟩ := h.bytes ha.1 ha'.1
  rw [Machine.read16, (ha.of_params h.params).read8]
  show (Machine.read8 (a + 1) t).andThen _ = _
  rw [(ha'.of_params h.params).read8, hlow, hhigh]
  show Res.ok (wordOf (highByte v) (lowByte v)) t = _
  rw [wordOf_high_low]

/-- Settles O29: both bytes are steady, and none is the DMA trigger. -/
theorem wordStoreReadsBack : Obligations.WordStoreReadsBack := by
  unfold Obligations.WordStoreReadsBack
  intro s a v hlo h
  have hsucc := succ_toNat (a := a) (by omega)
  have hlo' : 0x8000 ≤ (a + 1).toNat := by omega
  have hdma : a ≠ 0xFF46 := by rintro rfl; exact absurd h (by decide)
  have hdma' : a + 1 ≠ 0xFF46 := fun e => by rw [e] at hsucc; simp at hsucc; omega
  obtain ⟨t, hwrite, hstored, -, -⟩ := write16_ok a v s ⟨fun e => absurd e hdma, fun e => absurd e hdma'⟩
  obtain ⟨hlow, hhigh⟩ := hstored.bytes hlo hlo'
  exact ⟨t, hwrite, hlow, hhigh, hstored.read16 (steady_of_plain hlo (by omega)) (steady_of_plain hlo' (by omega))⟩

end Sys2Proof.Machine
end

section
/-! PROOFS. The stack: a pop of the word just pushed (40_load.md R120, R121), PUSH and POP (R144-R147), CALL and RET
(43_control.md R226, R228). DAA after ADD (41_alu8.md R164, R194) on packed decimal bytes. -/

namespace Sys2Proof.Machine

/-! ## A pop of the word just pushed -/

/-- The two stack bytes a push writes, read back as its word by the pop, which undoes the step of SP. -/
theorem pop16_of_pushed {s t : State} {v : Word} (steady : ∀ b, b = s.regs.sp - 2 ∨ b = s.regs.sp - 1 → s.steady b)
    (hstored : Stored16 s (s.regs.sp - 2) v t) (hsp : t.regs.sp = s.regs.sp - 2) :
    pop16 t = .ok v { t with regs := { t.regs with sp := s.regs.sp } } := by
  have high : s.regs.sp - 2 + 1 = s.regs.sp - 1 := by bv_omega
  have restored : s.regs.sp - 2 + 2 = s.regs.sp := by bv_omega
  have hread : read16 t.regs.sp t = .ok v t :=
    hsp ▸ hstored.read16 (steady _ (.inl rfl)) (high ▸ steady _ (.inr rfl))
  rw [pop16, hread, ← restored, ← hsp]
  rfl

theorem steady_of_stack_bytes {s : State} (h : ∀ b, b = s.regs.sp - 2 ∨ b = s.regs.sp - 1 →
      0x8000 ≤ b.toNat ∧ b ≠ 0xFF00 ∧ b ≠ s.params.randomAddr) :
    ∀ b, b = s.regs.sp - 2 ∨ b = s.regs.sp - 1 → s.steady b := fun b hb =>
  have ⟨hlo, hjoypad, hrnd⟩ := h b hb
  ⟨hlo, hjoypad, fun _ => hrnd⟩

/-- F is read with its low nibble 0, so AF is a word of which a write keeps every bit. -/
theorem af_masked (s : State) : s.af &&& 0xFFF0 = s.af := by
  rw [← wordOf_high_low_masked, State.af, highByte_wordOf, lowByte_wordOf, State.readF, BitVec.and_assoc, BitVec.and_self]

theorem setStackPair_stackPair_of_read (s u : State) (q : StackPair) :
    (u.setStackPair q (s.stackPair q)).stackPair q = s.stackPair q := by
  rw [setStackPair_stackPair]
  split
  case isTrue haf =>
    subst haf
    exact af_masked s
  case isFalse => rfl

/-- Settles O30: the pop reads the word pushed, and a pair that was read is written back whole. -/
theorem pushThenPopRestores : Obligations.PushThenPopRestores := by
  unfold Obligations.PushThenPopRestores
  intro q s hbytes hw
  obtain ⟨t, hpush, hstored, hregs, -⟩ := pushStoresPair.2.1 q s hw
  have hsp : t.regs.sp = s.regs.sp - 2 := by rw [hregs]
  have hpop := pop16_of_pushed (steady_of_stack_bytes hbytes) hstored hsp
  refine ⟨t, _, hpush, by rw [exec_ofPop, popPair, hpop]; rfl, ?pair, ?sp⟩
  case pair => exact setStackPair_stackPair_of_read s _ q
  case sp => exact setStackPair_regs_sp _ q _

/-- Settles O31: the pop reads the return address that the call pushed. -/
theorem callThenReturnResumes : Obligations.CallThenReturnResumes := by
  unfold Obligations.CallThenReturnResumes
  intro a s hbytes hw
  obtain ⟨t, hcall, hstored, hregs, -⟩ := call_next hw 24 a
  have hsp : t.regs.sp = s.regs.sp - 2 := by rw [hregs]
  have hpop := pop16_of_pushed (steady_of_stack_bytes hbytes) hstored hsp
  have hret : exec .ret t = done 16 (State.setPC { t with regs := { t.regs with sp := s.regs.sp } } s.regs.pc) := by
    show ret 16 t = _
    rw [ret, hpop]
    rfl
  refine ⟨t, _, hcall, by rw [hregs], hret, ?regs⟩
  case regs =>
    show { t.regs with sp := s.regs.sp, pc := s.regs.pc } = s.regs
    rw [hregs]

/-! ## Packed decimal bytes -/

/-- Two decimal digits in the two nibbles of a byte. -/
def packedDecimal (n : Nat) : Nat := 16 * (n / 10) + n % 10

/-- The sum of two packed bytes passes 0x99 exactly where the sum of the numbers passes 99: where the low digits carry, 9
tens make 100. -/
theorem daaCarry_of_sum (m n : Nat) :
    daaCarry ((packedDecimal m + packedDecimal n) % 256) false (decide (packedDecimal m + packedDecimal n > 255)) =
      decide (m + n ≥ 100) := by
  rw [daaCarry, Bool.not_false, Bool.true_and, ← Bool.decide_or, decide_eq_decide]
  rcases Nat.lt_or_ge (packedDecimal m + packedDecimal n) 256 with hbyte | hcarry
  · rw [Nat.mod_eq_of_lt hbyte]
    unfold packedDecimal at *
    omega
  · unfold packedDecimal at *
    omega

/-- The low digits of the sum pass 9 exactly where they carry into the high nibble or leave more than 9 in the low one. -/
theorem daa_low_correction {m n : Nat} :
    (m % 10 + n % 10 > 15 ∨ (packedDecimal m + packedDecimal n) % 256 % 16 > 9) ↔ m % 10 + n % 10 ≥ 10 := by
  unfold packedDecimal
  omega

/-- DAA after the addition of two packed bytes packs the sum modulo 100. -/
theorem daaValue_of_sum {m n : Nat} (hm : m < 100) (hn : n < 100) :
    daaValue ((packedDecimal m + packedDecimal n) % 256) false (decide (m % 10 + n % 10 > 15))
      (decide (packedDecimal m + packedDecimal n > 255)) = packedDecimal ((m + n) % 100) := by
  have hadj : daaAdjustment ((packedDecimal m + packedDecimal n) % 256) false (decide (m % 10 + n % 10 > 15))
      (decide (packedDecimal m + packedDecimal n > 255)) =
      (if m % 10 + n % 10 ≥ 10 then 6 else 0) + if m + n ≥ 100 then 0x60 else 0 := by
    simp only [daaAdjustment, daaCarry_of_sum m n, decide_eq_true_eq, true_and, daa_low_correction]
  rw [daaValue, hadj, if_neg Bool.false_ne_true]
  unfold packedDecimal
  split <;> split <;> omega

theorem packedDecimal_eq_zero (n : Nat) : packedDecimal n = 0 ↔ n = 0 := by
  unfold packedDecimal
  omega

/-- Settles O47: DAA of the sum and the flags that ADD leaves. -/
theorem addThenDecimalAdjustIsDecimalAddition : Obligations.AddThenDecimalAdjustIsDecimalAddition := by
  unfold Obligations.AddThenDecimalAdjustIsDecimalAddition
  intro s m n hm hn (ha : s.regs.a.toNat = packedDecimal m)
  have hb : (BitVec.ofNat 8 (packedDecimal n)).toNat = packedDecimal n := by
    rw [BitVec.toNat_ofNat, packedDecimal]
    omega
  obtain ⟨-, t, hadd, ⟨hta, -, htn, hth, htc, -⟩, -⟩ := (aluForms_run .add s).2.1 (BitVec.ofNat 8 (packedDecimal n))
  obtain ⟨u, hdaa, hua, ⟨huz, -, -, huc, -⟩, -⟩ := decimalAdjustByFlags.2 t
  have hlow : ∀ k, packedDecimal k % 16 = k % 10 := fun k => by unfold packedDecimal; omega
  have hcarryIn : carryIn .add s = 0 := rfl
  simp only [hcarryIn, ha, hb, hlow, Nat.add_zero] at hta hth htc
  have hvalue : daaValue t.regs.a.toNat t.flagN t.flagH t.flagC = packedDecimal ((m + n) % 100) := by
    rw [hta, htn, hth, htc]
    exact daaValue_of_sum hm hn
  have hcarry : daaCarry t.regs.a.toNat t.flagN t.flagC = decide (m + n ≥ 100) := by
    rw [hta, htn, htc]
    exact daaCarry_of_sum m n
  have hzero : u.flagZ = decide (daaValue t.regs.a.toNat t.flagN t.flagH t.flagC = 0) := huz
  refine ⟨t, u, hadd, hdaa, ?a, huc.trans hcarry, ?z⟩
  case a => rw [hua.trans hvalue, packedDecimal, Nat.mod_mod_of_dvd _ (by decide)]
  case z => rw [hzero, hvalue, decide_eq_decide, packedDecimal_eq_zero]

end Sys2Proof.Machine
end

section
/-! PROOFS. Operand faults: an instruction that begins with a bus operation that raises has its fault (60_exceptions.md
R301 F3). The operand reads beyond the image (20_memory.md R64); the writes that start a DMA copy from beyond it (R76). -/

namespace Sys2Proof.Machine

/-! ## What an instruction begins with -/

/-- `i` runs the operation `r` of the state `s` and goes on with what it gives. -/
def BeginsWith {α : Type} (i : Instr) (s : State) (r : Res α) : Prop :=
  ∃ k : α → State → Res Nat, exec i s = (r.andThen k).finish

theorem BeginsWith.fault {α : Type} {i : Instr} {s t : State} {r : Res α} {info : FaultInfo} (h : BeginsWith i s r)
    (hr : r = .raised info t) : exec i s = .fault (.raised info t) := by
  obtain ⟨k, hexec⟩ := h
  rw [hexec, hr]
  rfl

theorem Res.andThen_assoc {α β γ : Type} (r : Res α) (k : α → State → Res β) (l : β → State → Res γ) :
    (r.andThen k).andThen l = r.andThen fun v u => (k v u).andThen l := by cases r <;> rfl

/-! ## Reads -/

theorem read16_raises_low {a : Word} {s : State} (h : ¬ s.readable a) :
    read16 a s = .raised (.romReadBeyondImage a) { s with fault := some (.romReadBeyondImage a) } := by
  rw [read16, read8_raises a s h]
  rfl

theorem read16_raises_high {a : Word} {s : State} (h : s.readable a) (h' : ¬ s.readable (a + 1)) :
    read16 a s = .raised (.romReadBeyondImage (a + 1))
      { s.drawn a with fault := some (.romReadBeyondImage (a + 1)) } := by
  rw [read16, read8_ok a s h]
  show (read8 (a + 1) (s.drawn a)).andThen _ = _
  rw [read8_raises (a + 1) (s.drawn a) fun hr => h' ((drawn_readable s a _).1 hr)]
  rfl

/-- Every pop reads its word before anything else. -/
theorem beginsWith_pop {s : State} {i : Instr} {q : StackPair} {cc : Cond}
    (h : i ∈ [Instr.ofPop q, .ret, .reti] ∨ (s.cond cc = true ∧ i = .ofRet cc)) :
    BeginsWith i s (read16 s.regs.sp s) := by
  suffices hpop : BeginsWith i s (pop16 s) by
    obtain ⟨k, hexec⟩ := hpop
    exact ⟨_, hexec.trans (by rw [pop16, Res.andThen_assoc])⟩
  simp only [List.mem_cons, List.not_mem_nil, or_false] at h
  rcases h with (rfl | rfl | rfl) | ⟨hcond, rfl⟩
  · exact ⟨_, exec_ofPop q s⟩
  · exact ⟨_, rfl⟩
  · have hreti : exec .reti s = ((returnFromInterrupt s).andThen fun _ u => .ok 16 u).finish := rfl
    exact ⟨_, hreti.trans (by rw [returnFromInterrupt, Res.andThen_assoc])⟩
  · exact ⟨_, (exec_ofRet cc s).trans (retIf_taken hcond)⟩

/-- Settles O59: each form begins with the read of its operand, a pop with that of its word. -/
theorem operandReadsFaultBeyondImage : Obligations.OperandReadsFaultBeyondImage := by
  unfold Obligations.OperandReadsFaultBeyondImage
  intro s dst o r b q cc w
  constructor
  case left =>
    have byte : ∀ {i a}, BeginsWith i s (read8 a s) → ¬ s.readable a →
        exec i s = .fault (.raised (.romReadBeyondImage a) { s with fault := some (.romReadBeyondImage a) }) :=
      fun hi hr => hi.fault (read8_raises _ s hr)
    have pop : ∀ {i}, BeginsWith i s (read16 s.regs.sp s) → ¬ s.readable s.regs.sp →
        exec i s = .fault (.raised (.romReadBeyondImage s.regs.sp)
          { s with fault := some (.romReadBeyondImage s.regs.sp) }) :=
      fun hi hr => hi.fault (read16_raises_low hr)
    intro i a hi
    simp only [List.mem_cons, List.not_mem_nil, or_false, Prod.mk.injEq] at hi
    rcases hi with (⟨rfl, rfl⟩ | ⟨rfl, rfl⟩ | ⟨rfl, rfl⟩ | ⟨rfl, rfl⟩ | ⟨rfl, rfl⟩ | ⟨rfl, rfl⟩ | ⟨rfl, rfl⟩ | ⟨rfl, rfl⟩ |
      ⟨rfl, rfl⟩ | ⟨rfl, rfl⟩ | ⟨rfl, rfl⟩ | ⟨rfl, rfl⟩ | ⟨rfl, rfl⟩ | ⟨rfl, rfl⟩ | ⟨rfl, rfl⟩ | ⟨rfl, rfl⟩) |
      ⟨hcond, rfl, rfl⟩
    · exact byte ⟨_, exec_ofLd_reg_atHL dst s⟩
    · exact byte ⟨_, rfl⟩
    · exact byte ⟨_, rfl⟩
    · exact byte ⟨_, rfl⟩
    · exact byte ⟨_, rfl⟩
    · exact byte ⟨_, rfl⟩
    · exact byte ⟨_, exec_ofAlu_atHL o s⟩
    · exact byte ⟨_, rfl⟩
    · exact byte ⟨_, rfl⟩
    · exact byte ⟨_, exec_ofRot_atHL r s⟩
    · exact byte ⟨_, exec_ofBit_atHL b s⟩
    · exact byte ⟨_, exec_ofRes_atHL b s⟩
    · exact byte ⟨_, exec_ofSet_atHL b s⟩
    · exact pop (beginsWith_pop (q := q) (cc := cc) (.inl (by simp)))
    · exact pop (beginsWith_pop (q := q) (cc := cc) (.inl (by simp)))
    · exact pop (beginsWith_pop (q := q) (cc := cc) (.inl (by simp)))
    · exact pop (beginsWith_pop (q := q) (.inr ⟨hcond, rfl⟩))
  case right => exact fun i hi hlow hhigh => (beginsWith_pop hi).fault (read16_raises_high hlow hhigh)

end Sys2Proof.Machine
end

section
/-! PROOFS. Writes that raise (20_memory.md R76, 60_exceptions.md R301 F3): the fault of a DMA copy names a source byte that
cannot be read, whichever operation wrote the trigger. -/

namespace Sys2Proof.Machine

/-! ## Operations that raise at an unreadable byte -/

/-- The operation raises, at an address that `s` cannot read. -/
def Res.Unreadable {α : Type} (s : State) (r : Res α) : Prop :=
  ∃ a t, ¬ s.readable a ∧ r = .raised (.romReadBeyondImage a) t

theorem Res.Unreadable.andThen {α β : Type} {s : State} {r : Res α} (h : r.Unreadable s) (k : α → State → Res β) :
    (r.andThen k).Unreadable s := by
  obtain ⟨a, t, ha, rfl⟩ := h
  exact ⟨a, t, ha, rfl⟩

/-- What is readable depends on the image length alone. -/
theorem Res.Unreadable.of_romSize {α : Type} {s u : State} {r : Res α} (h : r.Unreadable u) (same : u.romSize = s.romSize) :
    r.Unreadable s := by
  obtain ⟨a, t, ha, hr⟩ := h
  exact ⟨a, t, fun hs => ha ((readable_congr same a).2 hs), hr⟩

/-- The instruction is the fault of an address that `s` cannot read. -/
def FaultsUnreadable (i : Instr) (s : State) : Prop :=
  ∃ a t, ¬ s.readable a ∧ exec i s = .fault (.raised (.romReadBeyondImage a) t)

theorem FaultsUnreadable.of_finish {i : Instr} {s : State} {r : Res Nat} (hexec : exec i s = r.finish)
    (h : r.Unreadable s) : FaultsUnreadable i s := by
  obtain ⟨a, t, ha, rfl⟩ := h
  exact ⟨a, t, ha, hexec⟩

theorem BeginsWith.faultsUnreadable {α : Type} {i : Instr} {s : State} {r : Res α} (hi : BeginsWith i s r)
    (h : r.Unreadable s) : FaultsUnreadable i s := by
  obtain ⟨k, hexec⟩ := hi
  exact .of_finish hexec (h.andThen k)

/-! ## The writes -/

theorem eq_dma_of_not_writable {s : State} {a : Word} {v : Byte} (h : ¬ s.writable a v) : a = 0xFF46 :=
  (Classical.not_imp.1 h).1

/-- The trigger is above the ROM, so what is not writable can still be read. -/
theorem readable_of_not_writable {s : State} {a : Word} {v : Byte} (h : ¬ s.writable a v) : s.readable a := by
  rw [eq_dma_of_not_writable h]
  exact readable_of_ge s (by decide)

theorem write8_unreadable {s : State} {a : Word} {v : Byte} (h : ¬ s.writable a v) : (write8 a v s).Unreadable s := by
  classical
  obtain rfl := eq_dma_of_not_writable h
  have hex : ∃ n, n < 160 ∧ ¬ s.readable (wordOf v 0 + BitVec.ofNat 16 n) := by
    by_contra hno
    exact h fun _ i hi => by_contra fun hbad => hno ⟨i, hi, hbad⟩
  obtain ⟨hn, hbad⟩ := Nat.find_spec hex
  have hread : ∀ i, i < Nat.find hex → s.readable (wordOf v 0 + BitVec.ofNat 16 i) := fun i hi =>
    by_contra fun hi' => Nat.find_min hex hi ⟨hi.trans hn, hi'⟩
  obtain ⟨t, hwrite⟩ := write8_dma_raises hn hread hbad
  exact ⟨_, t, hbad, hwrite⟩

theorem write16_unreadable {s : State} {a v : Word} (h : ¬ s.writable16 a v) : (write16 a v s).Unreadable s := by
  by_cases hlow : s.writable a (lowByte v)
  case neg => exact (write8_unreadable hlow).andThen _
  case pos =>
    obtain ⟨m, hwrite, hstored, -, -⟩ := write8_ok a (lowByte v) s hlow
    have hhigh : ¬ m.writable (a + 1) (highByte v) := fun hm =>
      h ⟨hlow, (writable_congr hstored.romSize _ _).1 hm⟩
    rw [write16, hwrite]
    exact (write8_unreadable hhigh).of_romSize hstored.romSize

theorem push16_unreadable {s : State} {v : Word} (h : ¬ s.writable16 (s.regs.sp - 2) v) : (push16 v s).Unreadable s :=
  (write16_unreadable (s := { s with regs := { s.regs with sp := s.regs.sp - 2 } }) h).of_romSize rfl

/-- The byte written after a read of the same address, which takes no byte of the image away. -/
theorem write8_drawn_unreadable {s : State} {v : Byte} (h : ¬ s.writable s.hl v) :
    (write8 (s.drawn s.hl).hl v (s.drawn s.hl)).Unreadable s := by
  rw [hl_of_regs (drawn_regs s s.hl)]
  have hdrawn : ¬ (s.drawn s.hl).writable s.hl v := fun hw => h ((writable_congr (drawn_romSize s s.hl) _ _).1 hw)
  exact (write8_unreadable hdrawn).of_romSize (drawn_romSize s s.hl)

theorem faultsUnreadable_of_modifyAtHL {i : Instr} {s : State} {f : Byte → Bool → Byte × Byte} {n : Nat}
    (hexec : exec i s = modifyAtHL f n s) (h : ¬ s.writable s.hl (f (s.readValue s.hl) s.flagC).1) :
    FaultsUnreadable i s := by
  rw [← flagC_of_regs (drawn_regs s s.hl)] at h
  refine .of_finish hexec ?_
  rw [read8_ok s.hl s (readable_of_not_writable h)]
  exact (write8_drawn_unreadable h).andThen _

theorem faultsUnreadable_of_replaceAtHL {i : Instr} {s : State} {g : Byte → Byte} {n : Nat}
    (hexec : exec i s = replaceAtHL g n s) (h : ¬ s.writable s.hl (g (s.readValue s.hl))) : FaultsUnreadable i s := by
  refine .of_finish hexec ?_
  rw [read8_ok s.hl s (readable_of_not_writable h)]
  exact (write8_drawn_unreadable h).andThen _

/-- An interrupt service pushes PC before anything else that can be seen of it. -/
theorem irqStep_unreadable {s : State} (hime : s.ime = true) (hpend : s.pending ≠ 0)
    (h : ¬ s.writable16 (s.regs.sp - 2) s.regs.pc) : (irqStep s).Unreadable s := by
  rw [irqStep, if_pos ⟨hime, hpend⟩, takeInterrupt]
  have hpush := push16_unreadable (s := { s with ime := false }) h
  exact ((hpush.of_romSize (s := s) rfl).andThen _).andThen _

/-- Settles O60: the byte stores and the pushes begin with their write; the forms on (HL) write after the read of an address
that can be read. -/
theorem operandWritesFaultInDma : Obligations.OperandWritesFaultInDma := by
  unfold Obligations.OperandWritesFaultInDma
  intro s r n w q cc k o b x
  refine ⟨?bytes, ?bits, ?words, fun hime hpend hw => irqStep_unreadable hime hpend hw⟩
  case bytes =>
    intro i a v hi hw
    have store : ∀ {i}, BeginsWith i s (write8 a v s) → FaultsUnreadable i s := fun hi =>
      hi.faultsUnreadable (write8_unreadable hw)
    simp only [List.mem_cons, List.not_mem_nil, or_false, Prod.mk.injEq, ← highPage_eq] at hi
    rcases hi with ⟨rfl, rfl, rfl⟩ | ⟨rfl, rfl, rfl⟩ | ⟨rfl, rfl, rfl⟩ | ⟨rfl, rfl, rfl⟩ | ⟨rfl, rfl, rfl⟩ |
      ⟨rfl, rfl, rfl⟩ | ⟨rfl, rfl, rfl⟩ | ⟨rfl, rfl, rfl⟩ | ⟨rfl, rfl, rfl⟩ | ⟨rfl, rfl, rfl⟩ | ⟨rfl, rfl, rfl⟩ |
      ⟨rfl, rfl, rfl⟩
    · exact store ⟨_, exec_ofLd_atHL_reg r s⟩
    · exact store ⟨_, rfl⟩
    · exact store ⟨_, rfl⟩
    · exact store ⟨_, rfl⟩
    · exact store ⟨_, rfl⟩
    · exact store ⟨_, rfl⟩
    · exact store ⟨_, rfl⟩
    · exact store ⟨_, rfl⟩
    · exact store ⟨_, rfl⟩
    · exact faultsUnreadable_of_modifyAtHL (incAtHL_eq s) hw
    · exact faultsUnreadable_of_modifyAtHL (decAtHL_eq s) hw
    · refine faultsUnreadable_of_modifyAtHL ((exec_ofRot_atHL o s).trans (rotAtHL_eq o s)) ?_
      rwa [rotWithFlags_eq]
  case bits =>
    rintro v hmade hw
    obtain rfl := hmade.eq_makeBit
    exact faultsUnreadable_of_replaceAtHL (exec_ofResOrSet_atHL b x s) hw
  case words =>
    intro i a v hi hw
    simp only [List.mem_cons, List.not_mem_nil, or_false, Prod.mk.injEq] at hi
    rcases hi with (⟨rfl, rfl, rfl⟩ | ⟨rfl, rfl, rfl⟩ | ⟨rfl, rfl, rfl⟩ | ⟨rfl, rfl, rfl⟩) | ⟨hcond, rfl, rfl, rfl⟩
    · exact BeginsWith.faultsUnreadable ⟨_, rfl⟩ (write16_unreadable hw)
    · exact BeginsWith.faultsUnreadable ⟨_, exec_ofPush q s⟩ (push16_unreadable hw)
    · exact BeginsWith.faultsUnreadable ⟨_, rfl⟩ (push16_unreadable hw)
    · exact BeginsWith.faultsUnreadable ⟨_, exec_ofRst k s⟩ (push16_unreadable hw)
    · exact BeginsWith.faultsUnreadable ⟨_, (exec_ofCall cc w s).trans (callIf_taken hcond w)⟩ (push16_unreadable hw)

end Sys2Proof.Machine
end
